-- ==== Sys2Proof/Word.lean ====
section
/-! DEFINITION. The octet and the 16-bit value of the Slot Link (R190). -/

namespace Sys2Proof

/-- One octet on the link (11.2). -/
abbrev Byte := BitVec 8

/-- One value of a frame or of a table bank: a 16-bit pattern, read as a signed number (R190). -/
abbrev Val := BitVec 16

/-- A 32-bit counter, which wraps from its maximum to 0 (R4, R27). -/
abbrev Counter := BitVec 32

end Sys2Proof
end

