-- ==== Sys2Proof/Config.lean ====
section
/-! DEFINITION. The free values: what the manual leaves to the part. They have no body, so nothing can be proved of them. -/

namespace Sys2Proof

/-- The order in which the blocks do their work at a cycle start. R10 lets it stand open ("No block's cycle-start work waits
for another's") and R11, R12, R41, R74 and others call either outcome correct. Applied to the count of free values drawn so far
(`State.free`), it names one permutation of the blocks (`Machine.orderOf`). DESIGN CHOICE of form, assumption 1. -/
opaque Config.cycleOrder : Nat → Nat

/-- Whether, after a reset with bad straps, the STRAP fault notice reaches the queue before the PART-STATE notice. R188 lets
either order stand. Applied to `State.free`. Assumption 2. -/
opaque Config.strapNoticeFirst : Nat → Bool

/-- The setting of the six strap pins as a hard reset finds it. The straps may have been changed since they were last read (R18), and
no command of the table changes them. Applied to `State.free`. Assumption 19. -/
opaque Config.strapsRead : Nat → BitVec 6

end Sys2Proof
end

