-- ==== Sys2Proof/Syntax.lean ====
section
/-! DEFINITION. The commands of the part: one constructor for each row of spec/opcode_table.json, in the table's order. -/

namespace Sys2Proof

/-- The two Slot Link ports (1.1). -/
inductive Port where
  | vehicle
  | chassis
deriving DecidableEq, Repr

/-- The steps of the part, one constructor a row. Indices are those of the manual's conventions, but that doors and edge lines
are counted from 0 here (door d of the manual is `d - 1`). `src` is the source station of a management request and `args` are
the values its frame carries; `mask` is the first value of a cab request. -/
inductive Instr where
  | frameArrival (port : Port) (octets : List Byte)
  | frameHandOn (port : Port)
  | frameSent (port : Port)
  | cycleStart
  | linkFaultHeal (port : Port)
  | signalStale (i : Fin 96)
  | signalHoldExpiry (i : Fin 96)
  | standstillSet
  | rearTracking
  | guardFall
  | persistenceElapsed (corner : Fin 6)
  | minimumPulse (corner : Fin 6)
  | runTimeout (corner : Fin 6)
  | loweringTimeout
  | raisingTimeout
  | confirmTimeout
  | rampEnd
  | brakeSaturated (axle : Fin 3)
  | openingTimeout (door : Fin 4)
  | closingTimeout (door : Fin 4)
  | warningEnd (door : Fin 4)
  | dwellEnd (door : Fin 4)
  | loadAbandon
  | edgeLineChange (line : Fin 4) (high : Bool)
  | edgeFilterExpiry (line : Fin 4)
  | powerOnReset (straps : BitVec 6)
  | loadBegin (src : BitVec 6) (args : List Val)
  | loadData (src : BitVec 6) (args : List Val)
  | loadEnd (src : BitVec 6) (args : List Val)
  | swap (src : BitVec 6) (args : List Val)
  | select (src : BitVec 6) (args : List Val)
  | read (src : BitVec 6) (args : List Val)
  | query (src : BitVec 6) (args : List Val)
  | start (src : BitVec 6) (args : List Val)
  | stop (src : BitVec 6) (args : List Val)
  | holdAdd (src : BitVec 6) (args : List Val)
  | holdRemove (src : BitVec 6) (args : List Val)
  | clearFaults (src : BitVec 6) (args : List Val)
  | clearCounters (src : BitVec 6) (args : List Val)
  | reset (src : BitVec 6) (args : List Val)
  | doorRelease (mask : Val)
  | doorClose (mask : Val)
  | kneelLower
  | kneelRaise
  | driverHoldOn
  | driverHoldOff
deriving DecidableEq, Repr

end Sys2Proof
end

