-- ==== Sys2Proof/WellFormed.lean ====
section
/-! DEFINITION. Which commands an accepted frame can spell: a management request comes from a station 1..62 and carries one to
six values (R3, 1.2). Every other command is well formed as it stands; its operands are bounded by their types. -/

namespace Sys2Proof

/-- A source station that passes the format test (R3). -/
def stationOk (src : BitVec 6) : Bool := decide (1 ≤ src.toNat) && decide (src.toNat ≤ 62)

/-- A value count that passes the format test (R3). -/
def countOk (args : List Val) : Bool := decide (1 ≤ args.length) && decide (args.length ≤ 6)

/-- The operands of a management request as an accepted frame carries them. -/
def requestOk (src : BitVec 6) (args : List Val) : Bool := stationOk src && countOk args

/-- A command that the outside can send (R3). -/
def WellFormed : Instr → Bool
  | .frameArrival _ _ => true
  | .frameHandOn _ => true
  | .frameSent _ => true
  | .cycleStart => true
  | .linkFaultHeal _ => true
  | .signalStale _ => true
  | .signalHoldExpiry _ => true
  | .standstillSet => true
  | .rearTracking => true
  | .guardFall => true
  | .persistenceElapsed _ => true
  | .minimumPulse _ => true
  | .runTimeout _ => true
  | .loweringTimeout => true
  | .raisingTimeout => true
  | .confirmTimeout => true
  | .rampEnd => true
  | .brakeSaturated _ => true
  | .openingTimeout _ => true
  | .closingTimeout _ => true
  | .warningEnd _ => true
  | .dwellEnd _ => true
  | .loadAbandon => true
  | .edgeLineChange _ _ => true
  | .edgeFilterExpiry _ => true
  | .powerOnReset _ => true
  | .loadBegin src args => requestOk src args
  | .loadData src args => requestOk src args
  | .loadEnd src args => requestOk src args
  | .swap src args => requestOk src args
  | .select src args => requestOk src args
  | .read src args => requestOk src args
  | .query src args => requestOk src args
  | .start src args => requestOk src args
  | .stop src args => requestOk src args
  | .holdAdd src args => requestOk src args
  | .holdRemove src args => requestOk src args
  | .clearFaults src args => requestOk src args
  | .clearCounters src args => requestOk src args
  | .reset src args => requestOk src args
  | .doorRelease _ => true
  | .doorClose _ => true
  | .kneelLower => true
  | .kneelRaise => true
  | .driverHoldOn => true
  | .driverHoldOff => true

end Sys2Proof
end

