-- ==== Sys2Proof/Decode.lean ====
section
/-! DEFINITION. The part decodes no words: it takes frames and events, and no row of spec/opcode_table.json gives bits. -/

namespace Sys2Proof

/-- The command a word spells by the table's bits. No row of spec/opcode_table.json gives any bit ("fields" is empty in every
row), so no word spells a command. -/
def decodeTableWord (_nbits _w : Nat) : Option Instr := none

end Sys2Proof
end

