-- ==== Sys2Proof/Machine/Arith.lean ====
section
/-! DEFINITION. The integer arithmetic of the manual's conventions (00_scope.md, "Arithmetic"), and the reading of values. -/

namespace Sys2Proof.Machine

/-- "Clamped to [lo, hi]" (00_scope.md). -/
def clamp (lo hi x : Int) : Int := if x < lo then lo else if hi < x then hi else x

/-- "Rounded down" (00_scope.md). The divisors of the manual are positive. -/
def divDown (a b : Int) : Int := a / b

/-- "Rounded up" (00_scope.md). -/
def divUp (a b : Int) : Int := -((-a) / b)

/-- "Rounded toward zero" (00_scope.md). -/
def divTrunc (a b : Int) : Int := Int.tdiv a b

/-- "Rounded to nearest, ties away from zero" (00_scope.md). -/
def divNear (a b : Int) : Int :=
  if a < 0 then -((2 * (-a) + b) / (2 * b)) else (2 * a + b) / (2 * b)

/-- The magnitude of a quantity. -/
def mag (x : Int) : Int := if x < 0 then -x else x

/-- "Saturating": a count at its maximum stays there when it is raised (00_scope.md). -/
def satSucc (max n : Nat) : Nat := if n < max then n + 1 else n

/-- The 16-bit pattern of a quantity (R190). -/
def toVal (x : Int) : Val := BitVec.ofInt 16 x

/-- The "not available" value −32768 (1.2). -/
def notAvailable : Val := BitVec.ofInt 16 (-32768)

/-- A flag as a value: set 1, clear 0 (R190). -/
def flagCode (b : Bool) : Int := if b then 1 else 0

/-- A set as a mask: member k, where `bits` holds true at place k, has the value 2^k (R190). -/
def maskOf : List Bool → Int
  | [] => 0
  | b :: bs => flagCode b + 2 * maskOf bs

/-- A 16-bit pattern as a value taken as a signed number (R190, "Wide values"). -/
def wide (n : Nat) : Int := (BitVec.ofNat 16 n).toInt

/-- The greatest index in 0..n whose breakpoint is at or below x; 0 when none is (R53, R68). -/
def cellIndex (bp : Nat → Int) (x : Int) : Nat → Nat
  | 0 => 0
  | n + 1 => if bp (n + 1) ≤ x then n + 1 else cellIndex bp x n

/-- The fraction of the cell i at x, in 1/256, rounded down (R54 stage 3, R68 step 2). -/
def cellFraction (bp : Nat → Int) (x : Int) (i : Nat) : Int :=
  divDown ((x - bp i) * 256) (bp (i + 1) - bp i)

/-- Interpolation in a row of a table at fraction t of cell i (R55 stage 5, R68 step 3). -/
def interpolate (row : Nat → Int) (i : Nat) (t : Int) : Int :=
  divNear (row i * (256 - t) + row (i + 1) * t) 256

/-- The nine speed breakpoints' interpolation: clamp, cell, fraction, quantity (R68; R53 to R55). -/
def interpolateAt (bp row : Nat → Int) (v : Int) : Int :=
  let x := clamp (bp 0) (bp 8) v
  let i := cellIndex bp x 7
  interpolate row i (cellFraction bp x i)

/-- Take the first n of a list and see them hold a test, giving the index of the first that fails it. -/
def firstBad {α : Type} (ok : α → Bool) : Nat → List α → Option Nat
  | _, [] => none
  | k, x :: xs => if ok x then firstBad ok (k + 1) xs else some k

end Sys2Proof.Machine
end

