-- ==== Sys2Proof/Machine/Types.lean ====
section
/-! DEFINITION. The named values of the manual and the codes R190 gives them: the position, counting from 0, in the list or
table that defines the field, or the code list of chapter 11. -/

namespace Sys2Proof.Machine

/-- The six frame kinds (1.2). -/
inductive FrameKind where
  | sample | request | command | mgmtReq | mgmtReply | notice
deriving DecidableEq, Repr

/-- Kind codes on the link (11.2). -/
def FrameKind.code : FrameKind → Nat
  | .sample => 0 | .request => 1 | .command => 2 | .mgmtReq => 3 | .mgmtReply => 4 | .notice => 5

/-- The kind a code names; 6..15 name none (11.2). -/
def FrameKind.ofCode : Nat → Option FrameKind
  | 0 => some .sample | 1 => some .request | 2 => some .command
  | 3 => some .mgmtReq | 4 => some .mgmtReply | 5 => some .notice | _ => none

/-- Route-table actions (2.1). -/
inductive Action where
  | consume | request | forward | forwardIf | drop
deriving DecidableEq, Repr

/-- Action codes (R190: position in the field's list, 2.1). -/
def Action.ofCode : Int → Option Action
  | 0 => some .consume | 1 => some .request | 2 => some .forward | 3 => some .forwardIf | 4 => some .drop | _ => none

/-- The roles of signal definitions (2.4). Doors count from 0 here. -/
inductive Role where
  | none | frontAngle | jointAngle | rearActual | wheelSpeed
  | height (c : Fin 6) | bellows (c : Fin 6)
  | reservoir | driverDecel | driveRequest
  | brakeActual (a : Fin 3)
  | doorPosition (d : Fin 4) | doorButton (d : Fin 4) | doorEmergency (d : Fin 4)
deriving DecidableEq, Repr

/-- Role codes (11.4): HEIGHT-c 5 + c, BELLOWS-c 11 + c, BRAKE-ACTUAL-a 20 + a, DOOR-POSITION-d 22 + d and so on, d from 1. -/
def Role.code : Role → Nat
  | .none => 0 | .frontAngle => 1 | .jointAngle => 2 | .rearActual => 3 | .wheelSpeed => 4
  | .height c => 5 + c.val | .bellows c => 11 + c.val
  | .reservoir => 17 | .driverDecel => 18 | .driveRequest => 19
  | .brakeActual a => 20 + a.val
  | .doorPosition d => 23 + d.val | .doorButton d => 27 + d.val | .doorEmergency d => 31 + d.val

/-- The role a code names (11.4). -/
def Role.ofCode : Int → Option Role
  | 0 => some .none | 1 => some .frontAngle | 2 => some .jointAngle | 3 => some .rearActual | 4 => some .wheelSpeed
  | 5 => some (.height 0) | 6 => some (.height 1) | 7 => some (.height 2)
  | 8 => some (.height 3) | 9 => some (.height 4) | 10 => some (.height 5)
  | 11 => some (.bellows 0) | 12 => some (.bellows 1) | 13 => some (.bellows 2)
  | 14 => some (.bellows 3) | 15 => some (.bellows 4) | 16 => some (.bellows 5)
  | 17 => some .reservoir | 18 => some .driverDecel | 19 => some .driveRequest
  | 20 => some (.brakeActual 0) | 21 => some (.brakeActual 1) | 22 => some (.brakeActual 2)
  | 23 => some (.doorPosition 0) | 24 => some (.doorPosition 1) | 25 => some (.doorPosition 2) | 26 => some (.doorPosition 3)
  | 27 => some (.doorButton 0) | 28 => some (.doorButton 1) | 29 => some (.doorButton 2) | 30 => some (.doorButton 3)
  | 31 => some (.doorEmergency 0) | 32 => some (.doorEmergency 1) | 33 => some (.doorEmergency 2) | 34 => some (.doorEmergency 3)
  | _ => Option.none

/-- Stale policies (2.4). -/
inductive StalePolicy where
  | hold | substitute | lose
deriving DecidableEq, Repr

/-- Stale policy codes (R190, 2.4). -/
def StalePolicy.ofCode : Int → Option StalePolicy
  | 0 => some .hold | 1 => some .substitute | 2 => some .lose | _ => none

/-- Part states (10.7). -/
inductive PartState where
  | config | run | stopping
deriving DecidableEq, Repr

/-- Part state codes (R190, 10.7). -/
def PartState.code : PartState → Int
  | .config => 0 | .run => 1 | .stopping => 2

/-- Causes of PART-STATE (R188). -/
inductive PartCause where
  | start | stop | holdConfirmed | powerOn | hard | soft
deriving DecidableEq, Repr

/-- Cause codes of PART-STATE (R190, R188). -/
def PartCause.code : PartCause → Int
  | .start => 0 | .stop => 1 | .holdConfirmed => 2 | .powerOn => 3 | .hard => 4 | .soft => 5

/-- Statuses of a signal record (R34). -/
inductive SigStatus where
  | never | fresh | held | substituted | lost
deriving DecidableEq, Repr

/-- Signal status codes (R190, R34). -/
def SigStatus.code : SigStatus → Int
  | .never => 0 | .fresh => 1 | .held => 2 | .substituted => 3 | .lost => 4

/-- Usable: FRESH, HELD or SUBSTITUTED (R32). -/
def SigStatus.usable : SigStatus → Bool
  | .never => false | .fresh => true | .held => true | .substituted => true | .lost => false

/-- Speed status (3.2). -/
inductive SpeedStatus where
  | valid | lost
deriving DecidableEq, Repr

/-- Speed status codes (R190, 3.2). -/
def SpeedStatus.code : SpeedStatus → Int
  | .valid => 0 | .lost => 1

/-- Rear-steer states (3.3). -/
inductive RearState where
  | parked | active | centering | locked | frozen
deriving DecidableEq, Repr

/-- Rear-steer state codes (R190, 3.3). -/
def RearState.code : RearState → Int
  | .parked => 0 | .active => 1 | .centering => 2 | .locked => 3 | .frozen => 4

/-- Damper modes (4.2). -/
inductive DamperMode where
  | normal | stiff
deriving DecidableEq, Repr

/-- Damper mode codes (11.3). -/
def DamperMode.code : DamperMode → Int
  | .normal => 0 | .stiff => 1

/-- Air levels (5.3). -/
inductive AirLevel where
  | normal | restricted | reserve | unknown
deriving DecidableEq, Repr

/-- Air level codes (R190, 5.3). -/
def AirLevel.code : AirLevel → Int
  | .normal => 0 | .restricted => 1 | .reserve => 2 | .unknown => 3

/-- Valve states of a corner (5.4). -/
inductive Valve where
  | hold | waitFill | filling | exhausting
deriving DecidableEq, Repr

/-- Valve state codes (R190, 5.4). -/
def Valve.code : Valve → Int
  | .hold => 0 | .waitFill => 1 | .filling => 2 | .exhausting => 3

/-- The valve command a corner sends: HOLD 0, FILL 1, EXHAUST 2 (R101, 11.3). -/
def Valve.command : Valve → Int
  | .hold => 0 | .waitFill => 0 | .filling => 1 | .exhausting => 2

/-- Priority classes on a fill slot (5.4): class 1 for kneel raising, class 2 for levelling. -/
inductive FillClass where
  | one | two
deriving DecidableEq, Repr

/-- The class as the number the record shows (5.4). -/
def FillClass.code : FillClass → Int
  | .one => 1 | .two => 2

/-- Persistence directions (5.4). -/
inductive PersistDir where
  | none | up | down
deriving DecidableEq, Repr

/-- Persistence direction codes (R190, 5.4). -/
def PersistDir.code : PersistDir → Int
  | .none => 0 | .up => 1 | .down => 2

/-- Axle-load statuses (5.8). -/
inductive LoadStatus where
  | estimated | fallback
deriving DecidableEq, Repr

/-- Axle-load status codes (R190, 5.8). -/
def LoadStatus.code : LoadStatus → Int
  | .estimated => 0 | .fallback => 1

/-- Kneel states (6.2). -/
inductive KneelState where
  | level | waitHold | lowering | knelt | raising
deriving DecidableEq, Repr

/-- Kneel state codes (R190, 6.2). -/
def KneelState.code : KneelState → Int
  | .level => 0 | .waitHold => 1 | .lowering => 2 | .knelt => 3 | .raising => 4

/-- Refusal reasons of a KNEEL-LOWER (6.2). -/
inductive KneelRefusal where
  | none | notRun | raising | disabled | moving | jointNotStraight | heightDegraded | air | corner
deriving DecidableEq, Repr

/-- Kneel refusal codes (R190, 6.2). -/
def KneelRefusal.code : KneelRefusal → Int
  | .none => 0 | .notRun => 1 | .raising => 2 | .disabled => 3 | .moving => 4
  | .jointNotStraight => 5 | .heightDegraded => 6 | .air => 7 | .corner => 8

/-- Causes of KNEEL-STATE (R117). -/
inductive KneelCause where
  | request | holdConfirmed | targetReached | loweringTimeout | raisingTimeout | doorsLocked | drive | standstillLost | stop
deriving DecidableEq, Repr

/-- Kneel cause codes (R190, R117). -/
def KneelCause.code : KneelCause → Int
  | .request => 0 | .holdConfirmed => 1 | .targetReached => 2 | .loweringTimeout => 3 | .raisingTimeout => 4
  | .doorsLocked => 5 | .drive => 6 | .standstillLost => 7 | .stop => 8

/-- Holders of claims (7.2). Door d of the manual is `door (d - 1)`. -/
inductive Holder where
  | door (d : Fin 4) | kneel | driver | maint | startup
deriving DecidableEq, Repr

/-- Holder codes (11.4). -/
def Holder.code : Holder → Int
  | .door d => d.val | .kneel => 4 | .driver => 5 | .maint => 6 | .startup => 7

/-- Hold states (7.3). -/
inductive HoldState where
  | released | pending | applying | confirmed | releasing
deriving DecidableEq, Repr

/-- Hold state codes: RELEASED 0 to RELEASING 4 (R190). -/
def HoldState.code : HoldState → Int
  | .released => 0 | .pending => 1 | .applying => 2 | .confirmed => 3 | .releasing => 4

/-- Causes of HOLD-STATE (R132). -/
inductive HoldCause where
  | claim | standstill | confirmed | confirmTimeout | drive | rampEnd | start | stop
deriving DecidableEq, Repr

/-- Hold cause codes (R190, R132). -/
def HoldCause.code : HoldCause → Int
  | .claim => 0 | .standstill => 1 | .confirmed => 2 | .confirmTimeout => 3
  | .drive => 4 | .rampEnd => 5 | .start => 6 | .stop => 7

/-- Door states (8.2). -/
inductive DoorState where
  | unknown | locked | releaseWait | released | opening | openState | warning | closing | reversing | emergency | fault
deriving DecidableEq, Repr

/-- Door state codes (R190, 8.2). -/
def DoorState.code : DoorState → Int
  | .unknown => 0 | .locked => 1 | .releaseWait => 2 | .released => 3 | .opening => 4 | .openState => 5
  | .warning => 6 | .closing => 7 | .reversing => 8 | .emergency => 9 | .fault => 10

/-- Door positions (8.2). -/
inductive DoorPos where
  | none | closedLocked | closedUnlocked | between | fullyOpen
deriving DecidableEq, Repr

/-- Door position codes: CLOSED-LOCKED 1 to FULLY-OPEN 4 (11.4), NONE 0 (8.2). -/
def DoorPos.code : DoorPos → Int
  | .none => 0 | .closedLocked => 1 | .closedUnlocked => 2 | .between => 3 | .fullyOpen => 4

/-- The position a usable DOOR-POSITION value stands for; a value that is none of the four codes is BETWEEN (R143). -/
def DoorPos.ofValue : Int → DoorPos
  | 1 => .closedLocked | 2 => .closedUnlocked | 4 => .fullyOpen | _ => .between

/-- Release modes (8.1). -/
inductive ReleaseMode where
  | cabOpen | passenger
deriving DecidableEq, Repr

/-- Release mode codes (R190, 8.1). -/
def ReleaseMode.code : ReleaseMode → Int
  | .cabOpen => 0 | .passenger => 1

/-- Causes of DOOR-STATE (R163). -/
inductive DoorCause where
  | request | standstill | gateMet | button | position | timeout | edge | dwell | warningEnd | lineClear
  | emergency | handleReturn | forced | positionLost | start | stop
deriving DecidableEq, Repr

/-- Door cause codes (R190, R163). -/
def DoorCause.code : DoorCause → Int
  | .request => 0 | .standstill => 1 | .gateMet => 2 | .button => 3 | .position => 4 | .timeout => 5 | .edge => 6
  | .dwell => 7 | .warningEnd => 8 | .lineClear => 9 | .emergency => 10 | .handleReturn => 11 | .forced => 12
  | .positionLost => 13 | .start => 14 | .stop => 15

/-- Reasons of RELEASE-REFUSED (R163). -/
inductive ReleaseReason where
  | malformed | notRun | speed | speedUnknown | cancelled
deriving DecidableEq, Repr

/-- Reason codes of RELEASE-REFUSED (R190, R163). -/
def ReleaseReason.code : ReleaseReason → Int
  | .malformed => 0 | .notRun => 1 | .speed => 2 | .speedUnknown => 3 | .cancelled => 4

/-- Door commands (8.4). -/
inductive DoorCommand where
  | keep | unlock | openDoor | close | stop
deriving DecidableEq, Repr

/-- Door command codes (11.3). -/
def DoorCommand.code : DoorCommand → Int
  | .keep => 0 | .unlock => 1 | .openDoor => 2 | .close => 3 | .stop => 4

/-- The 23 fault codes (R166), in the order of its table. -/
inductive FaultCode where
  | strap | linkV | linkC | speedLost | frontAngleLost | jointAngleLost | rearActualLost | rearTracking | guard2
  | heightLost | bellowsLost | cornerTimeout | reservoirLost | reservoirLow | kneelTimeout | demandLost | holdConfirm
  | doorPositionLost | doorTimeout | doorObstruction | doorMoving | doorEmergency | brakeSaturated
deriving DecidableEq, Repr

/-- Fault codes as numbers: STRAP 0 to BRAKE-SATURATED 22 (11.4). -/
def FaultCode.code : FaultCode → Int
  | .strap => 0 | .linkV => 1 | .linkC => 2 | .speedLost => 3 | .frontAngleLost => 4 | .jointAngleLost => 5
  | .rearActualLost => 6 | .rearTracking => 7 | .guard2 => 8 | .heightLost => 9 | .bellowsLost => 10
  | .cornerTimeout => 11 | .reservoirLost => 12 | .reservoirLow => 13 | .kneelTimeout => 14 | .demandLost => 15
  | .holdConfirm => 16 | .doorPositionLost => 17 | .doorTimeout => 18 | .doorObstruction => 19 | .doorMoving => 20
  | .doorEmergency => 21 | .brakeSaturated => 22

/-- Severities (9.1). -/
inductive Severity where
  | amber | red
deriving DecidableEq, Repr

/-- Severity codes (R190, 9.1). -/
def Severity.code : Severity → Int
  | .amber => 0 | .red => 1

/-- The severity of each code (R166). -/
def FaultCode.severity : FaultCode → Severity
  | .strap => .amber | .linkV => .amber | .linkC => .amber | .speedLost => .red | .frontAngleLost => .amber
  | .jointAngleLost => .red | .rearActualLost => .red | .rearTracking => .red | .guard2 => .amber | .heightLost => .amber
  | .bellowsLost => .amber | .cornerTimeout => .amber | .reservoirLost => .amber | .reservoirLow => .red
  | .kneelTimeout => .red | .demandLost => .red | .holdConfirm => .red | .doorPositionLost => .red | .doorTimeout => .amber
  | .doorObstruction => .amber | .doorMoving => .red | .doorEmergency => .amber | .brakeSaturated => .amber

/-- Whether a code is latched (R166). -/
def FaultCode.latched : FaultCode → Bool
  | .strap => false | .linkV => false | .linkC => false | .speedLost => false | .frontAngleLost => false
  | .jointAngleLost => false | .rearActualLost => true | .rearTracking => true | .guard2 => false | .heightLost => false
  | .bellowsLost => false | .cornerTimeout => true | .reservoirLost => false | .reservoirLow => false
  | .kneelTimeout => true | .demandLost => true | .holdConfirm => false | .doorPositionLost => false | .doorTimeout => false
  | .doorObstruction => false | .doorMoving => true | .doorEmergency => false | .brakeSaturated => false

/-- Degradation levels, best to worst (9.5). -/
inductive Level where
  | full | reduced | safe
deriving DecidableEq, Repr

/-- Level codes: FULL 0, REDUCED 1, SAFE 2 (R190). -/
def Level.code : Level → Int
  | .full => 0 | .reduced => 1 | .safe => 2

/-- The worse of two levels (R172). -/
def Level.worse : Level → Level → Level
  | .safe, _ => .safe | _, .safe => .safe | .reduced, _ => .reduced | _, .reduced => .reduced | .full, .full => .full

/-- The steering level a code sets while ACTIVE (R166, 9.5). -/
def FaultCode.steering : FaultCode → Level
  | .speedLost => .reduced | .frontAngleLost => .reduced | .jointAngleLost => .reduced
  | .rearActualLost => .safe | .rearTracking => .safe | _ => .full

/-- The joint level a code sets while ACTIVE (R166, 9.5). -/
def FaultCode.joint : FaultCode → Level
  | .speedLost => .reduced | .jointAngleLost => .safe | _ => .full

/-- The height level a code sets while ACTIVE (R166, 9.5). -/
def FaultCode.height : FaultCode → Level
  | .reservoirLost => .reduced | .reservoirLow => .safe | _ => .full

/-- The brake level a code sets while ACTIVE (R166, 9.5). -/
def FaultCode.brake : FaultCode → Level
  | .demandLost => .safe | _ => .full

/-- The fourteen notice kinds, in the order of 9.7. -/
inductive NoticeKind where
  | fault | faultHealed | signalLost | signalBack | doorState | releaseRefused | kneelState | kneelRefused | holdState
  | guardLevel | partState | loadDone | swapDone | loadAbandoned
deriving DecidableEq, Repr

/-- The place of a notice kind in 9.7; its tag is 160 plus this (11.2). -/
def NoticeKind.index : NoticeKind → Fin 14
  | .fault => 0 | .faultHealed => 1 | .signalLost => 2 | .signalBack => 3 | .doorState => 4 | .releaseRefused => 5
  | .kneelState => 6 | .kneelRefused => 7 | .holdState => 8 | .guardLevel => 9 | .partState => 10 | .loadDone => 11
  | .swapDone => 12 | .loadAbandoned => 13

/-- The class of a notice kind while the active T8 is EMPTY (R175). -/
def NoticeKind.emptyClass : NoticeKind → Int
  | .fault => 3 | .faultHealed => 2 | .partState => 2 | .loadDone => 2 | .swapDone => 2 | .loadAbandoned => 2
  | .signalLost => 1 | .signalBack => 1 | .doorState => 1 | .releaseRefused => 1 | .kneelState => 1 | .kneelRefused => 1
  | .holdState => 1 | .guardLevel => 1

/-- States of a shadow bank (10.2). -/
inductive ShadowState where
  | empty | loading | complete | errorOverrun | errorCount | errorSum | errorContent
deriving DecidableEq, Repr

/-- Shadow state codes (R190, 10.2). -/
def ShadowState.code : ShadowState → Int
  | .empty => 0 | .loading => 1 | .complete => 2 | .errorOverrun => 3 | .errorCount => 4 | .errorSum => 5
  | .errorContent => 6

/-- The two banks of a table as the cursor names them (R184). -/
inductive Bank where
  | active | shadow
deriving DecidableEq, Repr

/-- Bank codes: ACTIVE 0, SHADOW 1 (11.2). -/
def Bank.code : Bank → Nat
  | .active => 0 | .shadow => 1

/-- The reset a RESET request asks for (R189). -/
inductive ResetKind where
  | soft | hard
deriving DecidableEq, Repr

/-- RESET's argument and reply: SOFT 1, HARD 2 (11.5). -/
def ResetKind.code : ResetKind → Int
  | .soft => 1 | .hard => 2

/-- Refusal reasons of management requests (R177). -/
inductive RefusalReason where
  | unknownRequest | badArgument | state | moving | busy | notReady | notLoading | protectedTable
deriving DecidableEq, Repr

/-- Refusal reason codes: UNKNOWN-REQUEST 0 to PROTECTED 7 (R190). -/
def RefusalReason.code : RefusalReason → Int
  | .unknownRequest => 0 | .badArgument => 1 | .state => 2 | .moving => 3 | .busy => 4 | .notReady => 5
  | .notLoading => 6 | .protectedTable => 7

/-- The seven command records (R12). -/
inductive CmdRec where
  | rearSteer | joint | brake | height | door | drive | status
deriving DecidableEq, Repr

/-- Command record codes in T2: the order of R12, REAR-STEER 0 to STATUS 6 (11.6). -/
def CmdRec.index : CmdRec → Fin 7
  | .rearSteer => 0 | .joint => 1 | .brake => 2 | .height => 3 | .door => 4 | .drive => 5 | .status => 6

/-- The record a code names (11.6). -/
def CmdRec.ofCode : Int → Option CmdRec
  | 0 => some .rearSteer | 1 => some .joint | 2 => some .brake | 3 => some .height | 4 => some .door | 5 => some .drive
  | 6 => some .status | _ => none

/-- The port a command record is sent on (R12). -/
def CmdRec.port : CmdRec → Port
  | .status => .vehicle | _ => .chassis

/-- Port indices (1.1). -/
def portIndex : Port → Nat
  | .vehicle => 0 | .chassis => 1

/-- The other port (R24). -/
def otherPort : Port → Port
  | .vehicle => .chassis | .chassis => .vehicle

/-- The six corners in index order. -/
def cornerIx : List (Fin 6) := [0, 1, 2, 3, 4, 5]

/-- The three axles in index order. -/
def axleIx : List (Fin 3) := [0, 1, 2]

/-- The four doors, or edge lines, in index order. -/
def doorIx : List (Fin 4) := [0, 1, 2, 3]

/-- The nine tables in index order. -/
def tableIx : List (Fin 9) := [0, 1, 2, 3, 4, 5, 6, 7, 8]

/-- The axle a corner stands on (00_scope.md, Indices). -/
def axleOf : Fin 6 → Fin 3
  | 0 => 0 | 1 => 0 | 2 => 1 | 3 => 1 | 4 => 2 | 5 => 2

/-- The left corner of an axle. -/
def leftCorner : Fin 3 → Fin 6
  | 0 => 0 | 1 => 2 | 2 => 4

/-- The right corner of an axle. -/
def rightCorner : Fin 3 → Fin 6
  | 0 => 1 | 1 => 3 | 2 => 5

end Sys2Proof.Machine
end

