-- ==== Sys2Proof/Machine/Frame.lean ====
section
/-! DEFINITION. The frame on the link: its fields, its octets and its check (1.2, R2, 11.2). -/

namespace Sys2Proof.Machine

/-- A frame by its fields (1.2). The value count is the length of `values`. -/
structure Frame where
  src : BitVec 6
  dst : BitVec 6
  kind : FrameKind
  tag : BitVec 8
  seq : BitVec 4
  values : List Val
  check : BitVec 16
deriving DecidableEq, Repr

/-- One step of the check's shift register for generator x^16 + x^12 + x^5 + 1, n times (R2). -/
def crcShift : Nat → BitVec 16 → BitVec 16
  | 0, r => r
  | n + 1, r => crcShift n (if r.msb then (r <<< 1) ^^^ 0x1021#16 else r <<< 1)

/-- One octet into the check, most significant bit first (R2). -/
def crcOctet (r : BitVec 16) (b : Byte) : BitVec 16 := crcShift 8 (r ^^^ (b.setWidth 16 <<< 8))

/-- The check over the octets, from an initial value of all ones, not inverted (R2). -/
def crc (octets : List Byte) : BitVec 16 := octets.foldl crcOctet 0xFFFF#16

/-- The high octet of a 16-bit pattern, sent first (11.2). -/
def hiOctet (v : BitVec 16) : Byte := (v >>> 8).setWidth 8

/-- The low octet of a 16-bit pattern. -/
def loOctet (v : BitVec 16) : Byte := v.setWidth 8

/-- A 16-bit pattern from its octets, high octet first. -/
def ofOctets (hi lo : Byte) : BitVec 16 := (hi.setWidth 16 <<< 8) ||| lo.setWidth 16

/-- The values' octets, two each, high octet first (11.2). -/
def valueOctets : List Val → List Byte
  | [] => []
  | v :: vs => hiOctet v :: loOctet v :: valueOctets vs

/-- The octets the check covers: octets 0 .. 4 + 2n (11.2). The upper two bits of the station octets are sent as 0. -/
def bodyOctets (src dst : BitVec 6) (kind : FrameKind) (tag : BitVec 8) (seq : BitVec 4) (values : List Val) : List Byte :=
  src.setWidth 8 :: dst.setWidth 8 :: (BitVec.ofNat 8 (kind.code * 16) ||| seq.setWidth 8) :: tag
    :: BitVec.ofNat 8 values.length :: valueOctets values

/-- The octets of a frame as they stand on the link (11.2). -/
def Frame.octets (f : Frame) : List Byte :=
  bodyOctets f.src f.dst f.kind f.tag f.seq f.values ++ [hiOctet f.check, loOctet f.check]

/-- A frame the part builds: its check is computed from its own fields (R2, R13). -/
def buildFrame (src dst : BitVec 6) (kind : FrameKind) (tag : BitVec 8) (seq : BitVec 4) (values : List Val) : Frame :=
  { src := src, dst := dst, kind := kind, tag := tag, seq := seq, values := values
    check := crc (bodyOctets src dst kind tag seq values) }

/-- The check test (R3 test 1): the computed check equals the one the last two octets carry. A run of fewer than two octets
carries no check and fails (assumption 3). -/
def checkOk (octets : List Byte) : Bool :=
  match octets.drop (octets.length - 2) with
  | [hi, lo] => crc (octets.take (octets.length - 2)) == ofOctets hi lo
  | _ => false

/-- n values, two octets each, and the two octets of the check; none when the octets do not come out even. -/
def takeValues : Nat → List Byte → Option (List Val × BitVec 16)
  | 0, [hi, lo] => some ([], ofOctets hi lo)
  | 0, _ => none
  | n + 1, hi :: lo :: rest =>
    match takeValues n rest with
    | some (vs, c) => some (ofOctets hi lo :: vs, c)
    | none => none
  | _ + 1, _ => none

/-- The format test and the reading of the fields (R3 test 2, 11.2): none where the test fails. The upper two bits of the
station octets are not read. -/
def parseFrame (octets : List Byte) : Option Frame :=
  match octets with
  | o0 :: o1 :: o2 :: o3 :: o4 :: rest =>
    let src : BitVec 6 := o0.setWidth 6
    let dst : BitVec 6 := o1.setWidth 6
    if src = 0#6 ∨ src = 63#6 ∨ dst = 0#6 ∨ o4.toNat = 0 ∨ 6 < o4.toNat then none
    else
      match FrameKind.ofCode (o2 >>> 4).toNat, takeValues o4.toNat rest with
      | some k, some (vs, c) =>
        some { src := src, dst := dst, kind := k, tag := o3, seq := o2.setWidth 4, values := vs, check := c }
      | _, _ => none
  | _ => none

/-- The tag of a notice kind: 160 plus its place in 9.7 (11.2). -/
def noticeTag (k : NoticeKind) : BitVec 8 := BitVec.ofNat 8 (160 + k.index.val)

/-- The tag of a command frame: 200 plus the record's code (11.2). -/
def commandTag (r : CmdRec) : BitVec 8 := BitVec.ofNat 8 (200 + r.index.val)

/-- The tag of a REFUSED reply (11.2). -/
def refusedTag : Fin 50 := 15

/-- The place of a DONE reply's counter and tag: request tag + 64 is tag 96 + (request tag − 32) (11.2). -/
def doneReply (requestTag : Nat) : Nat := requestTag - 32

/-- The place of a READ reply's counter and tag: 128 + 2 × table + bank is 96 + 32 + 2 × table + bank (11.2). -/
def readReply (table : Fin 9) (bank : Bank) : Nat := 32 + 2 * table.val + bank.code

end Sys2Proof.Machine
end

