-- ==== Sys2Proof/Machine/Tables.lean ====
section
/-! DEFINITION. The nine tables' layouts (11.6) and the reading of the three variable ones: routes (2.1), signal definitions
(2.4) and the transmit schedule (1.6). -/

namespace Sys2Proof.Machine

/-- Capacity of each table in values (11.6). -/
def capacity : Fin 9 → Nat
  | 0 => 512 | 1 => 1152 | 2 => 112 | 3 => 203 | 4 => 38 | 5 => 39 | 6 => 21 | 7 => 44 | 8 => 22

/-- The fixed size of T3 to T8 (11.6); none for the variable tables. -/
def fixedSize : Fin 9 → Option Nat
  | 0 => none | 1 => none | 2 => none | 3 => some 203 | 4 => some 38 | 5 => some 39 | 6 => some 21 | 7 => some 44
  | 8 => some 22

/-- The size of an entry of T0 and T1, in values (11.6). -/
def entrySize : Fin 9 → Option Nat
  | 0 => some 8 | 1 => some 12 | _ => none

/-- Whether a table is structural: T0, T1 or T2 (10.2). -/
def structural (t : Fin 9) : Bool := decide (t.val ≤ 2)

/-- One entry of the route table by its values (2.1, 11.6). -/
structure RouteEntry where
  ingress : Int
  kind : Int
  source : Int
  tagLow : Int
  tagHigh : Int
  action : Int
  requireTrue : Val
  requireFalse : Val
deriving DecidableEq, Repr

/-- The entries of T0, eight values each (11.6). -/
def routeEntries : List Val → List RouteEntry
  | a :: b :: c :: d :: e :: f :: g :: h :: rest =>
    { ingress := a.toInt, kind := b.toInt, source := c.toInt, tagLow := d.toInt, tagHigh := e.toInt, action := f.toInt
      requireTrue := g, requireFalse := h } :: routeEntries rest
  | _ => []

/-- A route entry matches a frame that arrived on a port (R21). -/
def RouteEntry.matchesFrame (e : RouteEntry) (p : Port) (f : Frame) : Bool :=
  (e.ingress == 2 || e.ingress == (portIndex p : Int))
    && e.kind == (f.kind.code : Int)
    && (e.source == 0 || e.source == (f.src.toNat : Int))
    && decide (e.tagLow ≤ (f.tag.toNat : Int)) && decide ((f.tag.toNat : Int) ≤ e.tagHigh)

/-- One signal definition by its values (2.4, 11.6). -/
structure SigDef where
  role : Int
  source : Int
  tag : Int
  position : Int
  gain : Int
  offset : Int
  lower : Int
  upper : Int
  freshness : Int
  policy : Int
  holdLimit : Int
  default : Int
deriving DecidableEq, Repr

/-- The definitions of T1, twelve values each (11.6). -/
def sigDefs : List Val → List SigDef
  | a :: b :: c :: d :: e :: f :: g :: h :: i :: j :: k :: l :: rest =>
    { role := a.toInt, source := b.toInt, tag := c.toInt, position := d.toInt, gain := e.toInt, offset := f.toInt
      lower := g.toInt, upper := h.toInt, freshness := i.toInt, policy := j.toInt, holdLimit := k.toInt
      default := l.toInt } :: sigDefs rest
  | _ => []

/-- Pass over n lists, each an item count followed by that many items (R191). -/
def dropLists : Nat → List Val → List Val
  | 0, vs => vs
  | n + 1, v :: vs => dropLists n (vs.drop v.toInt.toNat)
  | _ + 1, [] => []

/-- The items of the schedule entry k of a T2 bank (R11, R191). -/
def scheduleEntry (vals : List Val) (k : Nat) : List Val :=
  match dropLists k vals with
  | v :: vs => vs.take v.toInt.toNat
  | [] => []

/-- The port and record an item names: port × 8 + command record code (11.6). -/
def scheduleItem (v : Val) : Option (Port × CmdRec) :=
  if 0 ≤ v.toInt ∧ v.toInt < 16 then
    match CmdRec.ofCode (v.toInt % 8) with
    | some r => some (if v.toInt < 8 then .vehicle else .chassis, r)
    | none => none
  else none

end Sys2Proof.Machine
end

