-- ==== Sys2Proof/Machine/Checks.lean ====
section
/-! DEFINITION. The content checks of LOAD-END (R181 test 4): R19, R30, R31, R191, R56, R79, R102, R118, R141, R162, R7, R9,
R175. Each answers the index of the lowest offending entry or value, or none. -/

namespace Sys2Proof.Machine

/-- A value within a range, ends included. -/
def inRange (lo hi x : Int) : Bool := decide (lo ≤ x) && decide (x ≤ hi)

/-- A route entry without the faults of R19: no source above 62, a kind, ingress and action that are listed, tags in range and
in order, and no predicate in both masks of a FORWARD-IF entry (R30). The ingress, a tag beyond 0..255 and a source below 0 are
held to the ranges of the field table in 2.1, which R19's list leaves out (assumption 43). -/
def routeOk (e : RouteEntry) : Bool :=
  inRange 0 2 e.ingress && inRange 0 5 e.kind && inRange 0 62 e.source && inRange 0 255 e.tagLow && inRange 0 255 e.tagHigh
    && decide (e.tagLow ≤ e.tagHigh) && inRange 0 4 e.action
    && (e.action != 3 || (e.requireTrue &&& e.requireFalse) == 0#16)

/-- The content check of T0 (R19). -/
def checkT0 (vals : List Val) : Option Nat := firstBad routeOk 0 (routeEntries vals)

/-- A definition's own values without the faults of R31. Tag, freshness limit and hold limit are held to the ranges of the field
table in 2.4, which R31's list leaves out in part (assumption 43). -/
def sigDefOk (d : SigDef) : Bool :=
  inRange 0 34 d.role && inRange 1 62 d.source && inRange 0 255 d.tag && inRange 0 5 d.position
    && d.lower != -32768 && d.upper != -32768 && d.default != -32768
    && decide (d.lower ≤ d.upper) && inRange d.lower d.upper d.default
    && inRange 1 255 d.freshness && inRange 0 2 d.policy && inRange 0 255 d.holdLimit

/-- A definition's role against those before it: a single role once, WHEEL-SPEED (code 4) at most six times, NONE freely (R31). -/
def roleFree (before : List Int) (r : Int) : Bool :=
  r == 0 || (if r == 4 then decide (before.count 4 < 6) else !before.contains r)

/-- The content check of T1 from a definition on, with the roles met so far (R31). -/
def checkT1From : Nat → List Int → List SigDef → Option Nat
  | _, _, [] => none
  | k, before, d :: ds =>
    if sigDefOk d && roleFree before d.role then checkT1From (k + 1) (before ++ [d.role]) ds else some k

/-- The content check of T1 (R31). -/
def checkT1 (vals : List Val) : Option Nat := checkT1From 0 [] (sigDefs vals)

/-- An item that names a record with the port it is sent on (R11). -/
def itemOk (v : Val) : Bool :=
  match scheduleItem v with
  | some (p, r) => decide (p = r.port)
  | none => false

/-- A list of items without repeats. -/
def noRepeat : List Val → Bool
  | [] => true
  | v :: vs => !vs.contains v && noRepeat vs

/-- The content check of T2, n lists before the end, from list k on (R191). -/
def checkT2From : Nat → Nat → List Val → Option Nat
  | 0, _, [] => none
  | 0, k, _ :: _ => some k
  | _ + 1, k, [] => some k
  | n + 1, k, v :: vs =>
    if inRange 0 6 v.toInt && decide (v.toInt.toNat ≤ vs.length)
        && (vs.take v.toInt.toNat).all itemOk && noRepeat (vs.take v.toInt.toNat)
    then checkT2From n (k + 1) (vs.drop v.toInt.toNat)
    else some k

/-- The content check of T2: sixteen lists and nothing after them (R191). -/
def checkT2 (vals : List Val) : Option Nat := checkT2From 16 0 vals

/-- The first of n positions, from k on, at which a test of a fixed table fails. -/
def firstBadAt (ok : Nat → Bool) : Nat → Nat → Option Nat
  | 0, _ => none
  | n + 1, k => if ok k then firstBadAt ok n (k + 1) else some k

/-- T3 at a position (R56, 3.1; positions by 11.6). -/
def t3Ok (v : Nat → Int) (k : Nat) : Bool :=
  if k < 9 then inRange 0 15000 (v k) && (k == 0 || decide (v (k - 1) < v k))
  else if k < 26 then inRange (-4500) 4500 (v k) && (k == 9 || decide (v (k - 1) < v k))
  else if k < 179 then inRange (-2000) 2000 (v k)
  else if k < 188 then inRange 0 255 (v k)
  else if k < 197 then inRange 0 2000 (v k)
  else if k < 199 then inRange 1 200 (v k)
  else if k == 199 then inRange 500 15000 (v k)
  else if k == 200 then inRange 0 2000 (v k) && decide (v k ≤ v 199)
  else if k == 201 then inRange 10 2000 (v k)
  else inRange 1 255 (v k)

/-- T4 at a position (R79, 4.1). -/
def t4Ok (v : Nat → Int) (k : Nat) : Bool :=
  if k < 9 then inRange 0 15000 (v k) && (k == 0 || decide (v (k - 1) < v k))
  else if k < 18 then inRange 0 4095 (v k)
  else if k < 27 then inRange 100 6000 (v k)
  else if k == 27 then inRange 0 25000 (v k)
  else if k == 28 then inRange 0 25000 (v k) && decide (v 27 ≤ v k)
  else if k == 29 then inRange 0 3000 (v k)
  else if k == 30 then inRange 1 2000 (v k)
  else if k == 31 then inRange 0 1000 (v k) && [18, 19, 20, 21, 22, 23, 24, 25, 26].all (fun g => decide (v k < v g))
  else if k == 32 then inRange 1 255 (v k)
  else if k == 33 then inRange 0 1000 (v k)
  else if k == 34 then inRange 0 1000 (v k) && decide (v k ≤ v 33)
  else if k == 35 then inRange 0 1000 (v k)
  else if k == 36 then inRange 0 1000 (v k)
  else inRange 0 4500 (v k)

/-- T5 at a position (R102, R118, 5.1, 6.1). A check between two values names the one the rule speaks of as too great or too
small (assumption 18). -/
def t5Ok (v : Nat → Int) (k : Nat) : Bool :=
  if k == 0 then inRange 100 1000 (v k)
  else if k == 1 then inRange 100 1000 (v k) && decide (v 1 ≤ v 0 - 20)
  else if k == 2 then inRange 0 1000 (v k) && decide (v 0 ≤ v 2)
  else if k < 9 then inRange (-100) 100 (v k) && decide (-250 ≤ v k - v 10)
  else if k == 9 then inRange 1 63 (v k)
  else if k == 10 then inRange 10 150 (v k)
  else if k == 11 then inRange 2 50 (v k)
  else if k == 12 then inRange 0 100 (v k) && decide (v 11 ≤ v k)
  else if k == 13 then inRange 1 255 (v k)
  else if k == 14 then inRange 0 4500 (v k)
  else if k == 15 then inRange 1 50 (v k)
  else if k == 16 then inRange 1 255 (v k)
  else if k < 19 then inRange 1 4000 (v k)
  else if k == 19 then inRange 1 3 (v k)
  else if k < 23 then inRange 0 5000 (v k)
  else if k < 26 then inRange 1 2000 (v k)
  else if k < 29 then inRange 0 20000 (v k) && decide (v k ≤ v (k + 3))
  else if k < 32 then inRange 0 20000 (v k)
  else if k < 35 then inRange 0 1 (v k)
  else if k == 35 then inRange 2 50 (v k) && decide (divDown (v 11) 2 ≤ v k) && decide (v k < v 10)
  else if k == 36 then inRange 2 100 (v k) && decide (divDown (v 11) 2 ≤ v k) && decide (v k < v 10)
  else inRange 1 4000 (v k)

/-- T6 at a position (R141, 7.1). -/
def t6Ok (v : Nat → Int) (k : Nat) : Bool :=
  if k == 0 then inRange 100 600 (v k)
  else if k == 1 then inRange 0 50 (v k)
  else if k < 5 then inRange 128 384 (v k)
  else if k < 8 then inRange 10 500 (v k)
  else if k < 11 then inRange 0 100 (v k)
  else if k < 14 then inRange 100 1000 (v k)
  else if k == 14 then
    inRange 50 1000 (v k) && [0, 1, 2].all (fun a => !((v 15).toNat.testBit a) || decide (v k ≤ v (11 + a)))
  else if k == 15 then inRange 1 7 (v k)
  else if k == 16 then inRange 500 1000 (v k)
  else if k == 17 then inRange 1 4000 (v k)
  else if k == 18 then inRange 1 1000 (v k)
  else if k == 19 then inRange 1 1000 (v k)
  else inRange 1 255 (v k)

/-- The T7 value at place j of a door's eleven (R162, R30, 8.1); `g` and `h` are the door's two gate masks. -/
def t7Place (g h : Val) (j : Nat) (x : Int) : Bool :=
  if j == 0 then inRange 0 1 x
  else if j == 1 then (g &&& h) == 0#16
  else if j == 2 then true
  else if j < 5 then inRange 1 4000 x
  else if j == 5 then inRange 1 1000 x
  else if j == 6 then inRange 0 12000 x
  else if j == 7 then inRange 1 7 x
  else if j < 10 then inRange 0 1 x
  else inRange 1 255 x

/-- T7 at a position (R162). -/
def t7Ok (vals : List Val) (k : Nat) : Bool :=
  t7Place (vals.getD (11 * (k / 11) + 1) 0#16) (vals.getD (11 * (k / 11) + 2) 0#16) (k % 11) (vals.getD k 0#16).toInt

/-- T8 at a position (R7, R9, R56, R162, R175, R181). -/
def t8Ok (v : Nat → Int) (k : Nat) : Bool :=
  if k == 0 then inRange 8 255 (v k)
  else if k == 1 then inRange (-50) 50 (v k)
  else if k == 2 then inRange 1 63 (v k)
  else if k < 17 then inRange 0 3 (v k)
  else if k == 17 then inRange 0 500 (v k)
  else if k == 18 then inRange 1 500 (v k)
  else if k == 19 then inRange 1 255 (v k)
  else if k == 20 then inRange 0 1500 (v k)
  else inRange 1 500 (v k)

/-- The content check of a table: the index ERROR-CONTENT reports, or none (R181). -/
def contentCheck (t : Fin 9) (vals : List Val) : Option Nat :=
  let v := fun k => (vals.getD k 0#16).toInt
  match t with
  | 0 => checkT0 vals
  | 1 => checkT1 vals
  | 2 => checkT2 vals
  | 3 => firstBadAt (t3Ok v) 203 0
  | 4 => firstBadAt (t4Ok v) 38 0
  | 5 => firstBadAt (t5Ok v) 39 0
  | 6 => firstBadAt (t6Ok v) 21 0
  | 7 => firstBadAt (t7Ok vals) 44 0
  | 8 => firstBadAt (t8Ok v) 22 0

end Sys2Proof.Machine
end

