-- ==== Sys2Proof/Machine/State.lean ====
section
/-! DEFINITION. The state of the part as plain data, every record the manual gives it; its value right after power-on reset; and
one update per field. The model's own fields are `pending`, `free` and the marks named in assumptions 5 to 7. -/

namespace Sys2Proof.Machine

/-- A frame in a receive queue, and whether CLEAR-COUNTERS marked it (R5, R27). -/
structure RxEntry where
  frame : Frame
  marked : Bool
deriving DecidableEq, Repr

/-- The two classes of frames in a transmit queue (1.7). -/
inductive TxClass where
  | own
  | limited
deriving DecidableEq, Repr

/-- A frame in a transmit queue with its class. `resetReply` marks the reply whose sending lets a pending reset take effect
(R17); the mark is the model's (assumption 6). -/
structure TxEntry where
  frame : Frame
  cls : TxClass
  resetReply : Bool
deriving DecidableEq, Repr

/-- The port counters (R4). -/
structure PortCounters where
  accepted : Counter
  checkErrors : Counter
  formatErrors : Counter
  overruns : Counter
  transmitted : Counter
  forwardDrops : Counter
  noticeDrops : Counter
  replyDrops : Counter
  commandDrops : Counter
deriving DecidableEq, Repr

/-- The classifier counters of a port (R27). -/
structure ClassCounters where
  consumed : Counter
  requested : Counter
  forwarded : Counter
  management : Counter
  unrouted : Counter
  gated : Counter
  misdirected : Counter
  dropped : Counter
deriving DecidableEq, Repr

/-- One port: its queues, error score, link-fault flag and counters (1.1). -/
structure PortState where
  rx : List RxEntry
  tx : List TxEntry
  score : Nat
  linkFault : Bool
  ctr : PortCounters
  cls : ClassCounters
deriving DecidableEq, Repr

/-- The sequence counters (R13): seven command records, fourteen notice tags, and the reply tags 96..145 by their place. -/
structure SeqCounters where
  command : Vector (BitVec 4) 7
  notice : Vector (BitVec 4) 14
  reply : Vector (BitVec 4) 50
deriving DecidableEq, Repr

/-- A signal record (R34). -/
structure SigRec where
  value : Int
  lastRaw : Int
  age : Nat
  status : SigStatus
  clamp : Bool
  lastSeq : BitVec 4
  duplicates : Nat
  skips : Nat
  notAvail : Nat
  shorts : Nat
deriving DecidableEq, Repr

/-- The motion state (3.2). -/
structure Motion where
  speed : Int
  status : SpeedStatus
  standstill : Bool
  timer : Nat
deriving DecidableEq, Repr

/-- The rear-steer record (3.3). -/
structure RearSteer where
  target : Int
  command : Int
  state : RearState
  trackTimer : Nat
  latch : Bool
deriving DecidableEq, Repr

/-- A joint sample: its value and the cycle number at its report (R66). -/
structure JointSample where
  value : Int
  cycle : BitVec 16
deriving DecidableEq, Repr

/-- The joint record (4.2). The history holds at most two samples, newest first. -/
structure Joint where
  history : List JointSample
  rate : Int
  damper : Int
  mode : DamperMode
  guard : Nat
  guardTimer : Nat
  torque : Int
deriving DecidableEq, Repr

/-- The air record (5.3). -/
structure Air where
  pressure : Int
  level : AirLevel
deriving DecidableEq, Repr

/-- A corner record (5.4). The freeze causes are the three flags `frozenHeight`, `frozenTimeout` and `frozenKneel`. -/
structure Corner where
  height : Int
  target : Int
  error : Int
  valve : Valve
  cls : FillClass
  frozenHeight : Bool
  frozenTimeout : Bool
  frozenKneel : Bool
  settle : Nat
  pulse : Nat
  run : Nat
  runStart : Int
  persist : Nat
  dir : PersistDir
  loadPressure : Option Int
deriving DecidableEq, Repr

/-- An axle-load record (5.8). -/
structure AxleLoad where
  load : Int
  status : LoadStatus
deriving DecidableEq, Repr

/-- The kneel record (6.2). -/
structure Kneel where
  state : KneelState
  timer : Nat
  timeoutFlag : Bool
  lastRefusal : KneelRefusal
deriving DecidableEq, Repr

/-- A claim: its holder and the cycle number at which it joined (7.2). -/
structure Claim where
  holder : Holder
  stamp : BitVec 16
deriving DecidableEq, Repr

/-- The hold record (7.3). -/
structure Hold where
  state : HoldState
  pressure : Int
  confirmTimer : Nat
  timeoutFlag : Bool
deriving DecidableEq, Repr

/-- The drive record (7.6). -/
structure Drive where
  inhibit : Bool
  torque : Int
deriving DecidableEq, Repr

/-- The axle pressure record (7.7). -/
structure AxlePressure where
  decel : Int
  driver : Vector Int 3
  pressure : Vector Int 3
  satTimer : Vector Nat 3
  backup : Bool
  holdFlag : Bool
deriving DecidableEq, Repr

/-- A door record (8.2). -/
structure Door where
  state : DoorState
  position : DoorPos
  pendingRelease : Bool
  mode : ReleaseMode
  timer : Nat
  reversals : Nat
  closeDeferred : Bool
  lastButton : Bool
  lastHandle : Bool
  tone : Bool
deriving DecidableEq, Repr

/-- A sensitive-edge line and its filter (8.9): the raw level of the pin (true is high), the filtered level (true is ACTIVE),
and the filter timer in 0.1 ms, which runs while `running`. A filter is watching while the active T7 is VALID. -/
structure EdgeLine where
  high : Bool
  filtered : Bool
  running : Bool
  timer : Nat
deriving DecidableEq, Repr

/-- An entry of the fault list (9.1). Severity and latched flag are taken from the code (R166). `active` is the state ACTIVE,
`present` the cause PRESENT. -/
structure FaultEntry where
  code : FaultCode
  subject : Nat
  active : Bool
  present : Bool
  count : Nat
  first : BitVec 16
  last : BitVec 16
deriving DecidableEq, Repr

/-- The degradation levels of the four jobs (9.5). -/
structure Levels where
  steering : Level
  joint : Level
  height : Level
  brake : Level
deriving DecidableEq, Repr

/-- The fault unit: the list, its overflow count, the levels and the lamp lines (9.1, 9.5, 9.6). -/
structure FaultUnit where
  list : List FaultEntry
  overflow : Nat
  levels : Levels
  amber : Bool
  red : Bool
deriving DecidableEq, Repr

/-- A table with its two banks (10.2). A bank's value count is the length of its values. -/
structure Table where
  valid : Bool
  active : List Val
  shadowState : ShadowState
  shadow : List Val
  errorIndex : Nat
  pendingSwap : Bool
deriving DecidableEq, Repr

/-- The load state while a table is loading (10.2). The value pointer is the count of values the shadow bank holds. -/
structure Loading where
  table : Fin 9
  overrun : Bool
  sum : BitVec 16
  idle : Nat
deriving DecidableEq, Repr

/-- The whole part. `pending` is the queue of commands waiting, first in first out, and `free` counts the free values drawn;
both are the model's own. -/
structure State where
  pending : List Instr
  free : Nat
  straps : BitVec 6
  station : BitVec 6
  vehicle : PortState
  chassis : PortState
  cycle : BitVec 16
  trim : Int
  seq : SeqCounters
  signals : Vector SigRec 96
  motion : Motion
  rear : RearSteer
  joint : Joint
  air : Air
  corners : Vector Corner 6
  loads : Vector AxleLoad 3
  kneel : Kneel
  holdSet : List Claim
  hold : Hold
  drive : Drive
  axle : AxlePressure
  doors : Vector Door 4
  edges : Vector EdgeLine 4
  faults : FaultUnit
  tables : Vector Table 9
  loading : Option Loading
  cursor : Option (Fin 9 × Bank)
  part : PartState
  resetPending : Option ResetKind
deriving DecidableEq, Repr

/-- Why the part stops. The manual describes no stop of the part; the one fault stands for what no port can hand on. -/
inductive Fault where
  /-- Raised by the meaning of a management request whose operands no accepted frame carries: a source station 0 or 63, or a
  value count outside 1..6 (R3). The format test drops such a frame, so the part never sees the request. Safe: the model stops
  where the part has nothing to do. -/
  | illFormedRequest
deriving DecidableEq, Repr

/-- Why a command has no meaning. -/
inductive Refusal where
  /-- Raised by exec for a row that has no meaning yet. Safe: nothing can be proved of what the row does. No row is left. -/
  | notModelled (mnemonic : String)
deriving DecidableEq, Repr

/-- Port counters at 0 (R4, R8). -/
def PortCounters.zero : PortCounters :=
  { accepted := 0, checkErrors := 0, formatErrors := 0, overruns := 0, transmitted := 0, forwardDrops := 0, noticeDrops := 0
    replyDrops := 0, commandDrops := 0 }

/-- Classifier counters at 0 (R27). -/
def ClassCounters.zero : ClassCounters :=
  { consumed := 0, requested := 0, forwarded := 0, management := 0, unrouted := 0, gated := 0, misdirected := 0, dropped := 0 }

/-- A port after any reset (R8). -/
def PortState.reset : PortState :=
  { rx := [], tx := [], score := 0, linkFault := false, ctr := PortCounters.zero, cls := ClassCounters.zero }

/-- The sequence counters after any reset (R13). -/
def SeqCounters.zero : SeqCounters :=
  { command := Vector.replicate 7 0, notice := Vector.replicate 14 0, reply := Vector.replicate 50 0 }

/-- A signal record after any reset (R34). -/
def SigRec.reset : SigRec :=
  { value := 0, lastRaw := 0, age := 0, status := .never, clamp := false, lastSeq := 0, duplicates := 0, skips := 0
    notAvail := 0, shorts := 0 }

/-- The motion state after any reset (R43). -/
def Motion.reset : Motion := { speed := 0, status := .lost, standstill := false, timer := 0 }

/-- The rear-steer record after any reset (R49). -/
def RearSteer.reset : RearSteer := { target := 0, command := 0, state := .parked, trackTimer := 0, latch := false }

/-- The joint record after any reset and in CONFIG (R64). -/
def Joint.reset : Joint :=
  { history := [], rate := 0, damper := 0, mode := .normal, guard := 0, guardTimer := 0, torque := 1000 }

/-- The air record after any reset and in CONFIG (R80). -/
def Air.reset : Air := { pressure := 0, level := .unknown }

/-- A corner record after any reset and in CONFIG (R80). -/
def Corner.reset : Corner :=
  { height := 0, target := 0, error := 0, valve := .hold, cls := .two, frozenHeight := false, frozenTimeout := false
    frozenKneel := false, settle := 0, pulse := 0, run := 0, runStart := 0, persist := 0, dir := .none, loadPressure := none }

/-- The kneel record after any reset (R103). -/
def Kneel.reset : Kneel := { state := .level, timer := 0, timeoutFlag := false, lastRefusal := .none }

/-- The hold set after any reset: STARTUP and the four door claims, stamped 0 (R120). -/
def resetClaims : List Claim :=
  [{ holder := .startup, stamp := 0 }, { holder := .door 0, stamp := 0 }, { holder := .door 1, stamp := 0 }
  , { holder := .door 2, stamp := 0 }, { holder := .door 3, stamp := 0 }]

/-- The hold record after any reset and in CONFIG (R122). -/
def Hold.reset : Hold := { state := .pending, pressure := 0, confirmTimer := 0, timeoutFlag := false }

/-- The drive record after any reset (R133, R134). -/
def Drive.reset : Drive := { inhibit := true, torque := 1000 }

/-- The axle pressure record after any reset and in CONFIG (R135). -/
def AxlePressure.reset : AxlePressure :=
  { decel := 0, driver := Vector.replicate 3 0, pressure := Vector.replicate 3 0, satTimer := Vector.replicate 3 0
    backup := false, holdFlag := false }

/-- A door record after any reset (R142). -/
def Door.reset : Door :=
  { state := .unknown, position := .none, pendingRelease := false, mode := .cabOpen, timer := 0, reversals := 0
    closeDeferred := false, lastButton := false, lastHandle := false, tone := false }

/-- All levels FULL (R172). -/
def Levels.full : Levels := { steering := .full, joint := .full, height := .full, brake := .full }

/-- The fault unit after any reset, before STRAP may be raised (R165). -/
def FaultUnit.reset : FaultUnit := { list := [], overflow := 0, levels := Levels.full, amber := false, red := false }

/-- A table after power-on and hard reset (R178). -/
def Table.empty : Table :=
  { valid := false, active := [], shadowState := .empty, shadow := [], errorIndex := 0, pendingSwap := false }

/-- The station code the straps give: 0 and 63 make it 62 (R18). -/
def stationOf (straps : BitVec 6) : BitVec 6 := if straps = 0#6 ∨ straps = 63#6 then 62#6 else straps

/-- The straps as the model finds them at its own reset: station 1. The manual gives no strap setting (assumption 8). -/
def resetStraps : BitVec 6 := 1#6

/-- The PART-STATE notice of the power-on reset: class 2 while T8 is EMPTY, new state CONFIG, old state not available, cause
POWER-ON; to all stations, sequence 0 (R188, R175, R176, R13). -/
def resetNotice : Frame :=
  buildFrame (stationOf resetStraps) 63#6 .notice (noticeTag .partState) 0#4
    [toVal 2, toVal PartState.config.code, notAvailable, toVal PartCause.powerOn.code]

/-- The part right after a power-on reset with straps for station 1 and edge lines high (assumptions 8 and 9): every record at
its reset value, and the PART-STATE notice of the reset queued (R188). -/
def State.reset : State where
  pending := []
  free := 0
  straps := resetStraps
  station := stationOf resetStraps
  vehicle := { PortState.reset with tx := [{ frame := resetNotice, cls := .limited, resetReply := false }] }
  chassis := PortState.reset
  cycle := 0
  trim := 0
  seq := { SeqCounters.zero with notice := SeqCounters.zero.notice.set 10 1 }
  signals := Vector.replicate 96 SigRec.reset
  motion := Motion.reset
  rear := RearSteer.reset
  joint := Joint.reset
  air := Air.reset
  corners := Vector.replicate 6 Corner.reset
  loads := Vector.replicate 3 { load := 20000, status := .fallback }
  kneel := Kneel.reset
  holdSet := resetClaims
  hold := Hold.reset
  drive := Drive.reset
  axle := AxlePressure.reset
  doors := Vector.replicate 4 Door.reset
  edges := Vector.replicate 4 { high := true, filtered := false, running := false, timer := 0 }
  faults := FaultUnit.reset
  tables := Vector.replicate 9 Table.empty
  loading := none
  cursor := none
  part := .config
  resetPending := none

/-- The state with another `pending`. -/
def State.setPending (s : State) (x : List Instr) : State := { s with pending := x }

/-- The state with another `free`. -/
def State.setFree (s : State) (x : Nat) : State := { s with free := x }

/-- The state with another `straps`. -/
def State.setStraps (s : State) (x : BitVec 6) : State := { s with straps := x }

/-- The state with another `station`. -/
def State.setStation (s : State) (x : BitVec 6) : State := { s with station := x }

/-- The state with another `vehicle`. -/
def State.setVehicle (s : State) (x : PortState) : State := { s with vehicle := x }

/-- The state with another `chassis`. -/
def State.setChassis (s : State) (x : PortState) : State := { s with chassis := x }

/-- The state with another `cycle`. -/
def State.setCycle (s : State) (x : BitVec 16) : State := { s with cycle := x }

/-- The state with another `trim`. -/
def State.setTrim (s : State) (x : Int) : State := { s with trim := x }

/-- The state with another `seq`. -/
def State.setSeq (s : State) (x : SeqCounters) : State := { s with seq := x }

/-- The state with another `signals`. -/
def State.setSignals (s : State) (x : Vector SigRec 96) : State := { s with signals := x }

/-- The state with another `motion`. -/
def State.setMotion (s : State) (x : Motion) : State := { s with motion := x }

/-- The state with another `rear`. -/
def State.setRear (s : State) (x : RearSteer) : State := { s with rear := x }

/-- The state with another `joint`. -/
def State.setJoint (s : State) (x : Joint) : State := { s with joint := x }

/-- The state with another `air`. -/
def State.setAir (s : State) (x : Air) : State := { s with air := x }

/-- The state with another `corners`. -/
def State.setCorners (s : State) (x : Vector Corner 6) : State := { s with corners := x }

/-- The state with another `loads`. -/
def State.setLoads (s : State) (x : Vector AxleLoad 3) : State := { s with loads := x }

/-- The state with another `kneel`. -/
def State.setKneel (s : State) (x : Kneel) : State := { s with kneel := x }

/-- The state with another `holdSet`. -/
def State.setHoldSet (s : State) (x : List Claim) : State := { s with holdSet := x }

/-- The state with another `hold`. -/
def State.setHold (s : State) (x : Hold) : State := { s with hold := x }

/-- The state with another `drive`. -/
def State.setDrive (s : State) (x : Drive) : State := { s with drive := x }

/-- The state with another `axle`. -/
def State.setAxle (s : State) (x : AxlePressure) : State := { s with axle := x }

/-- The state with another `doors`. -/
def State.setDoors (s : State) (x : Vector Door 4) : State := { s with doors := x }

/-- The state with another `edges`. -/
def State.setEdges (s : State) (x : Vector EdgeLine 4) : State := { s with edges := x }

/-- The state with another `faults`. -/
def State.setFaults (s : State) (x : FaultUnit) : State := { s with faults := x }

/-- The state with another `tables`. -/
def State.setTables (s : State) (x : Vector Table 9) : State := { s with tables := x }

/-- The state with another `loading`. -/
def State.setLoading (s : State) (x : Option Loading) : State := { s with loading := x }

/-- The state with another `cursor`. -/
def State.setCursor (s : State) (x : Option (Fin 9 × Bank)) : State := { s with cursor := x }

/-- The state with another `part`. -/
def State.setPart (s : State) (x : PartState) : State := { s with part := x }

/-- The state with another `resetPending`. -/
def State.setResetPending (s : State) (x : Option ResetKind) : State := { s with resetPending := x }

end Sys2Proof.Machine
end

