-- ==== Sys2Proof/Machine/Ops.lean ====
section
/-! DEFINITION. The operations every block shares: ports and their queues (R15), tables' parameters, signal records by role
(R32), notices (R176) and the fault list (R167, R168, R172, R173). -/

namespace Sys2Proof.Machine

/-! ### Ports -/

/-- A port by its name. -/
def State.port (s : State) : Port → PortState
  | .vehicle => s.vehicle
  | .chassis => s.chassis

/-- The state with another port record. -/
def State.setPort (s : State) (p : Port) (x : PortState) : State :=
  match p with
  | .vehicle => s.setVehicle x
  | .chassis => s.setChassis x

/-- A change of one port record. -/
def State.modPort (s : State) (p : Port) (f : PortState → PortState) : State := s.setPort p (f (s.port p))

/-- A change of one port's counters (R4). -/
def State.modCtr (s : State) (p : Port) (f : PortCounters → PortCounters) : State :=
  s.modPort p (fun x => { x with ctr := f x.ctr })

/-- What a frame offered to a transmit queue is (R15). -/
inductive Offer where
  | command | reply | forward | notice
deriving DecidableEq, Repr

/-- The class of an offered frame: the part's own frames, or the limited ones (1.7). -/
def Offer.cls : Offer → TxClass
  | .command => .own | .reply => .own | .forward => .limited | .notice => .limited

/-- The places held by limited frames (R15). -/
def limitedHeld (q : List TxEntry) : Nat := (q.filter (fun e => e.cls == .limited)).length

/-- Whether an offered frame finds a place it may use (R15): fewer than 32 held, and for a limited frame fewer than 24 of them
limited. -/
def hasPlace (q : List TxEntry) (c : TxClass) : Bool :=
  decide (q.length < 32) && (c == .own || decide (limitedHeld q < 24))

/-- The drop counter an offered frame raises when it finds no place (R15). -/
def countDrop (k : Offer) (c : PortCounters) : PortCounters :=
  match k with
  | .command => { c with commandDrops := c.commandDrops + 1 }
  | .reply => { c with replyDrops := c.replyDrops + 1 }
  | .forward => { c with forwardDrops := c.forwardDrops + 1 }
  | .notice => { c with noticeDrops := c.noticeDrops + 1 }

/-- Offer a frame to a port's transmit queue (R15). -/
def offerFrame (p : Port) (k : Offer) (f : Frame) (resetReply : Bool) (s : State) : State :=
  s.modPort p (fun x =>
    if hasPlace x.tx k.cls then { x with tx := x.tx ++ [{ frame := f, cls := k.cls, resetReply := resetReply }] }
    else { x with ctr := countDrop k x.ctr })

/-! ### Parts and tables -/

/-- RUN or STOPPING: the jobs run (10.7). -/
def State.running (s : State) : Bool := decide (s.part ≠ .config)

/-- A table by its index. -/
def State.tab (s : State) (t : Fin 9) : Table := s.tables[t]

/-- The state with another record of one table. -/
def State.setTab (s : State) (t : Fin 9) (x : Table) : State := s.setTables (s.tables.set t x)

/-- Whether a table's active bank is VALID (10.2). -/
def State.tableValid (s : State) (t : Fin 9) : Bool := (s.tab t).valid

/-- The pattern at a position of a table's active bank (11.6). -/
def State.raw (s : State) (t : Fin 9) (k : Nat) : Val := (s.tab t).active.getD k 0#16

/-- The parameter at a position of a table's active bank (11.6). -/
def State.param (s : State) (t : Fin 9) (k : Nat) : Int := (s.raw t k).toInt

/-- Member i of a set at a position of a table's active bank (R190). -/
def State.member (s : State) (t : Fin 9) (k i : Nat) : Bool := (s.raw t k).getLsbD i

/-! ### Signal records by role -/

/-- The definitions in use: those of the active T1, none while it is EMPTY (R32). -/
def State.sigDefs (s : State) : List SigDef := if s.tableValid 1 then Machine.sigDefs (s.tab 1).active else []

/-- The signal record at an index; a place past 95 is none and reads as the reset record. -/
def State.sigAt (s : State) (i : Nat) : SigRec := (s.signals[i]?).getD SigRec.reset

/-- The index of the first definition that bears a role (R32). -/
def roleIndex (r : Role) (ds : List SigDef) : Option Nat := ds.findIdx? (fun d => d.role == (r.code : Int))

/-- A single role's record; a role no definition bears reads as a record of status NEVER, value 0 (R32). -/
def State.role (s : State) (r : Role) : SigRec :=
  match roleIndex r s.sigDefs with
  | some i => s.sigAt i
  | none => SigRec.reset

/-- Whether a role's record is usable (R32). -/
def State.usable (s : State) (r : Role) : Bool := (s.role r).status.usable

/-- A role's value. -/
def State.value (s : State) (r : Role) : Int := (s.role r).value

/-! ### Notices -/

/-- The class in force of a notice kind (R175). -/
def noticeClass (k : NoticeKind) (s : State) : Int :=
  if s.tableValid 8 then s.param 8 (3 + k.index.val) else k.emptyClass

/-- The destination of notices (R13, R176). -/
def noticeDest (s : State) : BitVec 6 := if s.tableValid 8 then BitVec.ofInt 6 (s.param 8 2) else 63#6

/-- The frame of a notice (R13, R176): the class first, then the values (11.4). -/
def noticeFrame (k : NoticeKind) (vals : List Int) (s : State) : Frame :=
  buildFrame s.station (noticeDest s) .notice (noticeTag k) s.seq.notice[k.index] ((noticeClass k s :: vals).map toVal)

/-- Send a notice (R175, R176): nothing for class 0; else the frame is built, its counter raised, and the frame offered to the
vehicle port as a limited frame. -/
def sendNotice (k : NoticeKind) (vals : List Int) (s : State) : State :=
  if noticeClass k s = 0 then s
  else
    offerFrame .vehicle .notice (noticeFrame k vals s) false
      (s.setSeq { s.seq with notice := s.seq.notice.set k.index (s.seq.notice[k.index] + 1) })

/-! ### The fault list -/

/-- The entry of a pair of code and subject (R167). -/
def FaultEntry.isFor (c : FaultCode) (subject : Nat) (e : FaultEntry) : Bool := decide (e.code = c) && decide (e.subject = subject)

/-- The worst level that the ACTIVE entries set by one job's codes (R172). -/
def worstLevel (of : FaultCode → Level) (l : List FaultEntry) : Level :=
  l.foldl (fun w e => if e.active then w.worse (of e.code) else w) .full

/-- The four levels derived from the list (R172). -/
def levelsOf (l : List FaultEntry) : Levels :=
  { steering := worstLevel FaultCode.steering l, joint := worstLevel FaultCode.joint l
    height := worstLevel FaultCode.height l, brake := worstLevel FaultCode.brake l }

/-- At least one ACTIVE entry (R173). -/
def anyActive (l : List FaultEntry) : Bool := l.any (fun e => e.active)

/-- At least one ACTIVE entry of severity RED (R173). -/
def anyRed (l : List FaultEntry) : Bool := l.any (fun e => e.active && decide (e.code.severity = .red))

/-- The fault unit with another list: the levels and the lamp lines follow it (R172, R173). -/
def FaultUnit.withList (u : FaultUnit) (l : List FaultEntry) : FaultUnit :=
  { list := l, overflow := u.overflow, levels := levelsOf l, amber := anyActive l, red := anyRed l }

/-- Take out the INACTIVE entry nearest the head, if there is one (R167). -/
def takeFirstInactive : List FaultEntry → Option (FaultEntry × List FaultEntry)
  | [] => none
  | e :: es =>
    if e.active then
      match takeFirstInactive es with
      | some (x, rest) => some (x, e :: rest)
      | none => none
    else some (e, es)

/-- A new entry at its first activation (R167). -/
def newFault (c : FaultCode) (subject : Nat) (cycle : BitVec 16) : FaultEntry :=
  { code := c, subject := subject, active := true, present := true, count := 1, first := cycle, last := cycle }

/-- An entry activated again (R167). -/
def FaultEntry.again (e : FaultEntry) (cycle : BitVec 16) : FaultEntry :=
  { e with active := true, present := true, count := satSucc 255 e.count, last := cycle }

/-- What a raise makes of the list (R167). -/
structure Raised where
  unit : FaultUnit
  count : Nat
  listed : Bool
  removed : Option FaultEntry
deriving DecidableEq, Repr

/-- Raise a pair in the list: re-activated, added, added in place of the oldest INACTIVE entry, or counted as overflow (R167). -/
def raiseIn (u : FaultUnit) (c : FaultCode) (subject : Nat) (cycle : BitVec 16) : Raised :=
  match u.list.find? (FaultEntry.isFor c subject) with
  | some e =>
    { unit := u.withList (u.list.map (fun x => if FaultEntry.isFor c subject x then x.again cycle else x))
      count := satSucc 255 e.count, listed := true, removed := none }
  | none =>
    if u.list.length < 32 then
      { unit := u.withList (u.list ++ [newFault c subject cycle]), count := 1, listed := true, removed := none }
    else
      match takeFirstInactive u.list with
      | some (x, rest) =>
        { unit := u.withList (rest ++ [newFault c subject cycle]), count := 1, listed := true, removed := some x }
      | none => { unit := { u with overflow := satSucc 255 u.overflow }, count := 0, listed := false, removed := none }

/-- A corner loses its TIMEOUT freeze cause when its CORNER-TIMEOUT is reported removed (R87, R171). -/
def unfreezeTimeout (c : Fin 6) (s : State) : State :=
  s.setCorners (s.corners.set c { s.corners[c] with frozenTimeout := false })

/-- The report of an entry's removal: CORNER-TIMEOUT entries are reported to the height unit, others to no block (R171). -/
def reportRemoved (removed : Option FaultEntry) (s : State) : State :=
  match removed with
  | some e =>
    if h : e.subject < 6 then if e.code = .cornerTimeout then unfreezeTimeout ⟨e.subject, h⟩ s else s else s
  | none => s

/-- Raise a fault, as far as the list, the lamps, the FAULT notice and the report of a replaced entry go (R167, R171, R174).
The codes that set no level need no more. -/
def listFault (c : FaultCode) (subject : Nat) (s : State) : State :=
  let r := raiseIn s.faults c subject s.cycle
  reportRemoved r.removed
    (sendNotice .fault [c.code, subject, c.severity.code, r.count, flagCode r.listed] (s.setFaults r.unit))

/-- The list when a pair's cause has ended (R168). -/
def endIn (c : FaultCode) (subject : Nat) (l : List FaultEntry) : List FaultEntry :=
  l.map (fun e => if FaultEntry.isFor c subject e && e.active then { e with present := false, active := c.latched } else e)

/-- Report a cause ended, as far as the list, the lamps and the FAULT-HEALED notice go (R168, R174). -/
def listEnd (c : FaultCode) (subject : Nat) (s : State) : State :=
  match s.faults.list.find? (FaultEntry.isFor c subject) with
  | some e =>
    if e.active then
      let s1 := s.setFaults (s.faults.withList (endIn c subject s.faults.list))
      if c.latched then s1 else sendNotice .faultHealed [c.code, subject, 0, e.count] s1
    else s
  | none => s

end Sys2Proof.Machine
end

