-- ==== Sys2Proof/Machine/Flags.lean ====
section
/-! DEFINITION. The sixteen predicates and the gates over them (R29, R30). The predicate unit holds no state: each is read from
its owner's record when asked. -/

namespace Sys2Proof.Machine

/-- A door record by its index. -/
def State.door (s : State) (d : Fin 4) : Door := s.doors[d]

/-- All four door records are LOCKED (Q3, R60). -/
def State.allLocked (s : State) : Bool := doorIx.all (fun d => decide ((s.door d).state = .locked))

/-- Q6 JOINT-STRAIGHT: the JOINT-ANGLE record is usable and its magnitude at most the straight limit; false while T4 is EMPTY. -/
def State.jointStraight (s : State) : Bool :=
  s.tableValid 4 && s.usable .jointAngle && decide (mag (s.value .jointAngle) ≤ s.param 4 37)

/-- Q12 BRAKING: the driver deceleration in use is above 0; false while T6 is EMPTY (R29, R136). -/
def State.braking (s : State) : Bool := s.tableValid 6 && decide (0 < s.axle.decel)

/-- The predicate of a number (R29). -/
def predicate (s : State) (k : Nat) : Bool :=
  match k with
  | 0 => decide (s.motion.status = .valid)
  | 1 => s.motion.standstill
  | 2 => decide (s.hold.state = .confirmed)
  | 3 => s.allLocked
  | 4 => decide (s.kneel.state = .level)
  | 5 => decide (s.kneel.state = .knelt)
  | 6 => s.jointStraight
  | 7 => decide (s.air.level = .normal)
  | 8 => s.tableValid 8 && decide (s.motion.status = .valid) && decide (s.motion.speed ≤ s.param 8 20)
  | 9 => decide (s.rear.state = .locked)
  | 10 => !anyRed s.faults.list
  | 11 => decide (s.part = .run)
  | 12 => s.braking
  | 13 => decide (s.joint.guard = 1 ∨ s.joint.guard = 2)
  | 14 => s.drive.inhibit
  | 15 => s.holdSet.isEmpty
  | _ => false

/-- The sixteen predicate numbers. -/
def predicateIx : List Nat := [0, 1, 2, 3, 4, 5, 6, 7, 8, 9, 10, 11, 12, 13, 14, 15]

/-- A gate is satisfied: every predicate of the require-true mask is true and every one of the require-false mask false (R30). -/
def gateSatisfied (requireTrue requireFalse : Val) (s : State) : Bool :=
  predicateIx.all (fun k =>
    (!requireTrue.getLsbD k || predicate s k) && (!requireFalse.getLsbD k || !predicate s k))

end Sys2Proof.Machine
end

