-- ==== Sys2Proof/Machine/Brake.lean ====
section
/-! DEFINITION. The brake resolver: the axle pressure resolution, the hold record and the hold set (chapter 7). Operations that
may bring the hold into CONFIRMED answer, beside the state, whether they did; the caller then has the report delivered
(`reportConfirmed`), as R123 gives. -/

namespace Sys2Proof.Machine

/-! ### Axle pressure (7.7) -/

/-- The driver deceleration in use (R136): 0 when DRIVER-DECEL is unusable, else clamped to [0, Dmax], and 0 at or below the
deadband. -/
def driverDecel (s : State) : Int :=
  if s.usable .driverDecel then
    let x := clamp 0 (s.param 6 0) (s.value .driverDecel)
    if x ≤ s.param 6 1 then 0 else x
  else 0

/-- The driver pressure of an axle, steps 1 to 3 (R137). -/
def driverPressure (s : State) (a : Fin 3) : Int :=
  if s.axle.decel = 0 ∨ s.axle.backup = true then 0
  else
    let force := divDown (s.loads[a].load * s.axle.decel) 100
    let biased := divDown (force * s.param 6 (2 + a.val)) 256
    s.param 6 (8 + a.val) + divUp biased (s.param 6 (5 + a.val))

/-- The hold term of an axle, step 4 (R137). -/
def holdTerm (s : State) (a : Fin 3) : Int := if s.member 6 15 a.val then s.hold.pressure else 0

/-- The guard term of an axle, step 5 (R137): p_g2 of T4 on A3 at guard level 2. -/
def guardTerm (s : State) (a : Fin 3) : Int := if a = 2 ∧ s.joint.guard = 2 then s.param 4 36 else 0

/-- The maximum pressure of an axle (T6). -/
def maxPressure (s : State) (a : Fin 3) : Int := s.param 6 (11 + a.val)

/-- The pressure of an axle, step 6 (R137). -/
def axlePressure (s : State) (a : Fin 3) : Int :=
  min (max (max (driverPressure s a) (holdTerm s a)) (guardTerm s a)) (maxPressure s a)

/-- The hold states in which the stop hold asks pressure (R137). -/
def HoldState.asks : HoldState → Bool
  | .applying => true | .confirmed => true | .releasing => true | .released => false | .pending => false

/-- An axle's saturation ends at the resolution that brings its driver pressure within its maximum (R138). -/
def endSaturation (s : State) (a : Fin 3) : State :=
  if s.axle.driver[a] ≤ maxPressure s a then
    let s1 := s.setAxle { s.axle with satTimer := s.axle.satTimer.set a 0 }
    if s.axle.satTimer[a] = 0 then s1 else listEnd .brakeSaturated a.val s1
  else s

/-- The axle pressures resolved, the saturation timers as they stand (R137). -/
def resolvePressures (s : State) : State :=
  s.setAxle { s.axle with
    driver := Vector.ofFn (driverPressure s), pressure := Vector.ofFn (axlePressure s), holdFlag := s.hold.state.asks }

/-- Resolve the axle pressures (R137, R138), in RUN and STOPPING; in CONFIG no resolution is made (R135). Saturations that end do so in
axle order (assumption 65). -/
def resolveAxles (s : State) : State := if s.running then axleIx.foldl endSaturation (resolvePressures s) else s

/-- Resolve the axle pressures at the end of an event that changed p_hold or the hold state (R123, R137); with both as they were,
no resolution is due. -/
def resolveIfHeld (old : Hold) (s : State) : State :=
  if s.hold.state = old.state ∧ s.hold.pressure = old.pressure then s else resolveAxles s

/-- Evaluate the backup flag (R139). -/
def evalBackup (s : State) : State :=
  s.setAxle { s.axle with backup := decide (s.faults.levels.brake = .safe) || !s.usable .driverDecel }

/-- The resolver's work at a change of the brake level (R136, R139): backup flag, then resolution. -/
def brakeLevelChanged (s : State) : State := if s.running then resolveAxles (evalBackup s) else s

/-! ### The hold set and the drive inhibit -/

/-- Whether a holder's claim stands in the set (7.2). -/
def State.claims (s : State) (h : Holder) : Bool := s.holdSet.any (fun c => decide (c.holder = h))

/-- The drive inhibit follows the set: on while it holds a claim (R133). -/
def setInhibit (s : State) : State := s.setDrive { s.drive with inhibit := !s.holdSet.isEmpty }

/-- The set without a holder's claim, and the inhibit with it (R119, R133). -/
def dropClaim (h : Holder) (s : State) : State :=
  setInhibit (s.setHoldSet (s.holdSet.filter (fun c => decide (c.holder ≠ h))))

/-- The set with a holder's claim at its end, stamped with the cycle number, and the inhibit with it (R119, R133). -/
def joinClaim (h : Holder) (s : State) : State :=
  setInhibit (s.setHoldSet (s.holdSet ++ [{ holder := h, stamp := s.cycle }]))

/-! ### The hold record -/

/-- The hold pressure p_h (T6). -/
def holdPressure (s : State) : Int := s.param 6 14

/-- The p_hold of a hold state (7.3): the ramp of RELEASING starts from the value held. -/
def pressureOf (s : State) : HoldState → Int
  | .released => 0 | .pending => 0 | .applying => holdPressure s | .confirmed => holdPressure s
  | .releasing => s.hold.pressure

/-- The hold record at a new state: an entry into APPLYING sets the confirm timer to 0 and clears the flag (R123, R128). Another
state keeps both (assumption 48). -/
def holdAt (s : State) (new : HoldState) : Hold :=
  { state := new, pressure := pressureOf s new
    confirmTimer := if new = .applying then 0 else s.hold.confirmTimer
    timeoutFlag := if new = .applying then false else s.hold.timeoutFlag }

/-- The HOLD-STATE notice (R132, 11.4). -/
def holdNotice (new old : HoldState) (cause : HoldCause) (s : State) : State :=
  sendNotice .holdState [new.code, old.code, cause.code, s.hold.pressure, s.holdSet.length] s

/-- The cause of HOLD-CONFIRM ends when the state leaves APPLYING (R128). -/
def leaveApplying (new old : HoldState) (s : State) : State :=
  if old = .applying ∧ new ≠ .applying then listEnd .holdConfirm 0 s else s

/-- Work a change of the hold state (R123): the record, the removal of STARTUP at CONFIRMED (R128), HOLD-STATE, then the end of
the cause of HOLD-CONFIRM (assumption 49). -/
def enterHold (new : HoldState) (cause : HoldCause) (s : State) : State :=
  let s1 := s.setHold (holdAt s new)
  let s2 := if new = .confirmed then dropClaim .startup s1 else s1
  leaveApplying new s.hold.state (holdNotice new s.hold.state cause s2)

/-- The DRIVE-REQUEST record is usable and at or above the release threshold (R129). -/
def driveAsked (s : State) : Bool := s.usable .driveRequest && decide (s.param 6 18 ≤ s.value .driveRequest)

/-- The release test in APPLYING and CONFIRMED (R129): the set empty and the drive asked. -/
def releaseTest (cause : HoldCause) (s : State) : State :=
  if (s.hold.state = .applying ∨ s.hold.state = .confirmed) ∧ s.holdSet.isEmpty ∧ driveAsked s then
    enterHold .releasing cause s
  else s

/-- The pressure that confirms the hold, rounded up (R127). -/
def confirmPressure (s : State) : Int := divUp (holdPressure s * s.param 6 16) 1000

/-- Every axle of the hold mask reports enough pressure (R127). -/
def confirmMet (s : State) : Bool :=
  axleIx.all (fun a =>
    !s.member 6 15 a.val
      || (s.usable (.brakeActual a) && decide (confirmPressure s ≤ s.value (.brakeActual a))))

/-- The confirm test in APPLYING (R127). When STARTUP was the last claim, the release test is made on the emptied set (R128).
The answer says whether the hold became CONFIRMED; that report is delivered by the caller, after the release test and the
resolution of the axles (R123: assumption 71). -/
def confirmTest (s : State) : State × Bool :=
  if s.hold.state = .applying ∧ confirmMet s then
    let s1 := enterHold .confirmed .confirmed s
    (if s.claims .startup then releaseTest .claim s1 else s1, true)
  else (s, false)

/-- Enter APPLYING and make the confirm test of the entry (R127). -/
def applyHold (cause : HoldCause) (s : State) : State × Bool := confirmTest (enterHold .applying cause s)

/-- The hold record takes an addition (R124), in RUN and STOPPING; in CONFIG it keeps its values (R122). -/
def holdOnAdd (s : State) : State × Bool :=
  if s.running then
    match s.hold.state with
    | .released => if s.motion.standstill then applyHold .claim s else (enterHold .pending .claim s, false)
    | .releasing => applyHold .claim s
    | .pending => (s, false)
    | .applying => (s, false)
    | .confirmed => (s, false)
  else (s, false)

/-- Add a claim (R119): nothing when the holder is in the set; else the claim joins, the hold record takes the change, then the
drive record, then the axle pressures when the hold changed. -/
def addClaim (h : Holder) (s : State) : State × Bool :=
  if s.claims h then (s, false)
  else
    let r := holdOnAdd (joinClaim h s)
    (resolveIfHeld s.hold r.1, r.2)

/-- The hold record takes a removal (R125), in RUN and STOPPING. -/
def holdOnRemove (s : State) : State :=
  if s.running ∧ s.holdSet.isEmpty then
    match s.hold.state with
    | .pending => enterHold .released .claim s
    | .applying => releaseTest .claim s
    | .confirmed => releaseTest .claim s
    | .released => s
    | .releasing => s
  else s

/-- Remove a claim (R119): nothing when the holder is absent. A removal does not bring the hold into CONFIRMED. -/
def removeClaim (h : Holder) (s : State) : State :=
  if s.claims h then resolveIfHeld s.hold (holdOnRemove (dropClaim h s)) else s

/-- The hold record at a setting of the standstill flag (R126). -/
def holdOnStandstill (s : State) : State × Bool :=
  if s.running then
    match s.hold.state with
    | .pending => let r := applyHold .standstill s; (resolveAxles r.1, r.2)
    | .releasing => if driveAsked s then (s, false) else let r := applyHold .standstill s; (resolveAxles r.1, r.2)
    | .released => (s, false)
    | .applying => (s, false)
    | .confirmed => (s, false)
  else (s, false)

/-- The hold record at a DRIVE-REQUEST report (R123): the release test, or the re-application in RELEASING at standstill (R129,
R131), whose cause is DRIVE also where the record has become unusable (assumption 21). -/
def holdOnDrive (s : State) : State × Bool :=
  if s.running then
    match s.hold.state with
    | .applying => (resolveIfHeld s.hold (releaseTest .drive s), false)
    | .confirmed => (resolveIfHeld s.hold (releaseTest .drive s), false)
    | .releasing =>
      if driveAsked s ∨ s.motion.standstill = false then (s, false)
      else let r := applyHold .drive s; (resolveAxles r.1, r.2)
    | .released => (s, false)
    | .pending => (s, false)
  else (s, false)

/-- The hold record at a BRAKE-ACTUAL report of a hold-mask axle (R123, R127). -/
def holdOnActual (s : State) : State × Bool :=
  if s.running then let r := confirmTest s; (resolveIfHeld s.hold r.1, r.2) else (s, false)

/-- The hold's cycle-start work (R128, R130): the confirm timer in APPLYING, the release ramp in RELEASING. -/
def holdCycle (s : State) : State :=
  if s.running then
    match s.hold.state with
    | .applying =>
      if s.hold.timeoutFlag then s
      else
        let t := s.hold.confirmTimer + 1
        if s.param 6 17 < (t : Int) then
          holdNotice .applying .applying .confirmTimeout
            (listFault .holdConfirm 0 (s.setHold { s.hold with confirmTimer := t, timeoutFlag := true }))
        else s.setHold { s.hold with confirmTimer := t }
    | .releasing =>
      let p := max 0 (s.hold.pressure - s.param 6 19)
      let s1 := s.setHold { s.hold with pressure := p }
      resolveAxles (if p = 0 then enterHold .released .rampEnd s1 else s1)
    | .released => s
    | .pending => s
    | .confirmed => s
  else s

/-- An axle's saturation count at a cycle start (R138). -/
def satCycle (a : Fin 3) (s : State) : State :=
  if s.running then
    if maxPressure s a < s.axle.driver[a] then
      let t := s.axle.satTimer[a]
      if t < 255 then
        let s1 := s.setAxle { s.axle with satTimer := s.axle.satTimer.set a (t + 1) }
        if ((t + 1 : Nat) : Int) = s.param 6 20 then listFault .brakeSaturated a.val s1 else s1
      else s
    else endSaturation s a
  else s

/-- A swap of T6 in RUN or STOPPING, in the order of R141. Its resolution leaves the saturation timers, which count against the
new maximum from the next cycle start (R141 against R138: assumption 50). CONFIRMED of step 3 is reported after step 5 (R123:
assumption 71). -/
def brakeSwap (s : State) : State × Bool :=
  let s1 := s.setAxle { s.axle with decel := driverDecel s }
  let p := match s1.hold.state with
    | .applying => holdPressure s1
    | .confirmed => holdPressure s1
    | .releasing => min s1.hold.pressure (holdPressure s1)
    | .released => s1.hold.pressure
    | .pending => s1.hold.pressure
  let r := confirmTest (s1.setHold { s1.hold with pressure := p })
  (resolvePressures (releaseTest .drive r.1), r.2)

/-- The brake resolver's work at the entry into CONFIG (R122, R128, R134, R135, R136, R138): hold record, HOLD-STATE when the state
changed, axle record, torque limit, and then the causes that end there: HOLD-CONFIRM, DEMAND-LOST, BRAKE-SATURATED in axle order
(assumption 58). -/
def brakeConfig (s : State) : State :=
  let old := s.hold.state
  let s1 := s.setHold Hold.reset
  let s2 := if old = .pending then s1 else holdNotice .pending old .stop s1
  let s3 := s2.setAxle AxlePressure.reset
  let s4 := setInhibit (s3.setDrive { s3.drive with torque := 1000 })
  axleIx.foldl (fun x a => listEnd .brakeSaturated a.val x) (listEnd .demandLost 0 (listEnd .holdConfirm 0 s4))

end Sys2Proof.Machine
end

