-- ==== Sys2Proof/Machine/RearSteer.lean ====
section
/-! DEFINITION. The rear-steer record (chapter 3, 3.3 to 3.6). -/

namespace Sys2Proof.Machine

/-! ### The target (R53 to R55) -/

/-- The map value at v and δf: cells, fractions, row sums, rounding (R53, R54). `p` reads T3 by position. -/
def mapValue (p : Nat → Int) (v df : Int) : Int :=
  let f := fun j => p (9 + j)
  let x := clamp (p 0) (p 8) v
  let y := clamp (f 0) (f 16) df
  let i := cellIndex p x 7
  let j := cellIndex f y 15
  let tv := cellFraction p x i
  let tf := cellFraction f y j
  let m := fun i j => p (26 + 17 * i + j)
  let a := m i j * (256 - tf) + m i (j + 1) * tf
  let b := m (i + 1) j * (256 - tf) + m (i + 1) (j + 1) * tf
  divNear (a * (256 - tv) + b * tv) 65536

/-- The joint gain at v (R55 stage 5). -/
def jointGain (p : Nat → Int) (v : Int) : Int := interpolateAt p (fun i => p (179 + i)) v

/-- The limit at v (R55 stage 5). -/
def steerLimit (p : Nat → Int) (v : Int) : Int := interpolateAt p (fun i => p (188 + i)) v

/-- The target from v, δf and γ (R53 to R55). -/
def mapTarget (p : Nat → Int) (v df gamma : Int) : Int :=
  let limit := steerLimit p v
  clamp (-limit) limit (mapValue p v df - divNear (jointGain p v * gamma) 256)

/-- The target of the moment (R52): 0 under any of its five conditions, else from the map. An unusable REAR-ACTUAL is not one of
them (R52 against R61: assumption 45). -/
def rearTarget (s : State) : Int :=
  if s.rear.latch ∨ s.faults.levels.steering ≠ .full ∨ s.usable .frontAngle = false ∨ s.usable .jointAngle = false
      ∨ s.motion.status = .lost then 0
  else mapTarget (s.param 3) s.motion.speed (s.value .frontAngle) (s.value .jointAngle)

/-- Recompute the target, while the state is other than PARKED (R52). -/
def retarget (s : State) : State :=
  if s.rear.state = .parked then s else s.setRear { s.rear with target := rearTarget s }

/-! ### Lock latch and state -/

/-- The lock latch after an evaluation (R57). -/
def latchAfter (s : State) : Bool :=
  if s.motion.status = .valid ∧ s.param 3 199 ≤ s.motion.speed then true
  else if s.motion.status = .valid ∧ s.motion.speed < s.param 3 199 - s.param 3 200 ∧ s.faults.levels.steering = .full then false
  else s.rear.latch

/-- Evaluate the lock latch (R57), while the state is other than PARKED (R49). -/
def evalLatch (s : State) : State :=
  if s.rear.state = .parked then s else s.setRear { s.rear with latch := latchAfter s }

/-- Centring is called for (R58). -/
def centring (s : State) : Bool :=
  s.rear.latch || decide (s.faults.levels.steering = .reduced) || !s.usable .frontAngle || !s.usable .jointAngle
    || decide (s.motion.status = .lost)

/-- The state the table of R58 gives. -/
def resolvedState (s : State) : RearState :=
  if s.faults.levels.steering = .safe ∨ s.usable .rearActual = false then .locked
  else if s.allLocked = false then .frozen
  else if centring s then (if s.rear.command = 0 then .locked else .centering)
  else .active

/-- Resolve the state, while it is other than PARKED (R58). -/
def resolveRear (s : State) : State :=
  if s.rear.state = .parked then s else s.setRear { s.rear with state := resolvedState s }

/-- The rear-steer work at a change of the motion state: latch, target, state (R45, R52, R57, R58). -/
def rearMotion (s : State) : State := resolveRear (retarget (evalLatch s))

/-- The rear-steer work at a change of the steering level: latch, target, state; SAFE sets the tracking timer to 0, which ends
the cause of REAR-TRACKING (R51, R57, R58, R62). -/
def rearLevelChanged (s : State) : State :=
  let s1 := rearMotion s
  if s1.rear.state = .parked ∨ s1.faults.levels.steering ≠ .safe then s1
  else
    let s2 := s1.setRear { s1.rear with trackTimer := 0 }
    if s1.rear.trackTimer = 0 then s2 else listEnd .rearTracking 0 s2

/-- The rear-steer work at a report of FRONT-ANGLE or JOINT-ANGLE: target, then state (R52, R58). -/
def rearInputs (s : State) : State := resolveRear (retarget s)

/-! ### Cycle start -/

/-- The actual angle differs from the command by more than the track limit (R62). -/
def offTrack (s : State) : Bool := decide (s.param 3 201 < mag (s.value .rearActual - s.rear.command))

/-- The tracking timer after the test of a cycle start, and whether the test raises REAR-TRACKING (R62). -/
def trackTest (s : State) : Nat × Bool :=
  if s.faults.levels.steering = .safe then (0, false)
  else if s.usable .rearActual = false then (s.rear.trackTimer, false)
  else if offTrack s then
    if s.param 3 202 ≤ ((s.rear.trackTimer + 1 : Nat) : Int) then ((s.param 3 202).toNat, true)
    else (s.rear.trackTimer + 1, false)
  else (0, false)

/-- The step rate (R59). -/
def stepRate (s : State) : Int :=
  if s.rear.state = .centering ∧ s.faults.levels.steering = .reduced then s.param 3 198 else s.param 3 197

/-- A command moved toward a target by at most a rate (R59). -/
def stepToward (command target rate : Int) : Int :=
  if mag (target - command) ≤ rate then target
  else if command < target then command + rate else command - rate

/-- The command step of a cycle start, with the resolution after it (R59). -/
def stepCommand (s : State) : State :=
  if s.rear.state = .active ∨ s.rear.state = .centering then
    resolveRear (s.setRear { s.rear with command := stepToward s.rear.command s.rear.target (stepRate s) })
  else s

/-! ### START and CONFIG -/

/-- The rear-steer record at START, in the order of R50. -/
def rearStart (s : State) : State :=
  let s1 := s.setRear { s.rear with state := .active, trackTimer := 0 }
  let s2 := evalLatch s1
  let s3 :=
    if s2.allLocked then
      s2.setRear { s2.rear with
        command := if s2.usable .rearActual then clamp (-2000) 2000 (s2.value .rearActual) else 0 }
    else s2
  resolveRear (retarget s3)

/-- The rear-steer record at the entry into CONFIG (R49); the command is kept. The cause of REAR-TRACKING ends with the timer at
0 (R62), those of FRONT-ANGLE-LOST and REAR-ACTUAL-LOST with the part state (R51). -/
def rearConfig (s : State) : State :=
  listEnd .rearTracking 0 (listEnd .rearActualLost 0 (listEnd .frontAngleLost 0
    (s.setRear { s.rear with state := .parked, target := 0, trackTimer := 0, latch := false })))

end Sys2Proof.Machine
end

