-- ==== Sys2Proof/Machine/Joint.lean ====
section
/-! DEFINITION. The joint record: rate, damper, jackknife guard, torque limit (chapter 4). -/

namespace Sys2Proof.Machine

/-! ### Rate (R66, R67) -/

/-- The rate of two samples: the change over the cycles between them, at least 1, toward zero, clamped (R66). -/
def sampleRate (new old : JointSample) : Int :=
  let n := (new.cycle - old.cycle).toNat
  clamp (-32767) 32767 (divTrunc (new.value - old.value) (if n = 0 then 1 else n))

/-- The history and rate after an accepted sample (R66). -/
def jointSampled (s : State) : State :=
  let new : JointSample := { value := s.value .jointAngle, cycle := s.cycle }
  match s.joint.history with
  | [] => s.setJoint { s.joint with history := [new], rate := 0 }
  | old :: _ => s.setJoint { s.joint with history := [new, old], rate := sampleRate new old }

/-- The history and rate after a change of status without a sample: HELD leaves them, SUBSTITUTED and LOST empty them (R67). -/
def jointStatus (s : State) : State :=
  match (s.role .jointAngle).status with
  | .held => s
  | .fresh => s
  | .substituted => s.setJoint { s.joint with history := [], rate := 0 }
  | .lost => s.setJoint { s.joint with history := [], rate := 0 }
  | .never => s.setJoint { s.joint with history := [], rate := 0 }

/-! ### Damper (R68, R69) -/

/-- The damper gain at a speed (R68). -/
def damperGain (s : State) (v : Int) : Int := interpolateAt (s.param 4) (fun i => s.param 4 (9 + i)) v

/-- The greatest of dgain[0..8] (R69). -/
def greatestGain (s : State) : Int :=
  [1, 2, 3, 4, 5, 6, 7, 8].foldl (fun g i => max g (s.param 4 (9 + i))) (s.param 4 9)

/-- The damper pressure of a gain: d0 + gain × |rate| / 16, rounded down, within [d0, dmax] (R69). -/
def damperPressure (s : State) (gain : Int) : Int :=
  clamp (s.param 4 27) (s.param 4 28) (s.param 4 27 + divDown (gain * mag s.joint.rate) 16)

/-- Compute the damper command and mode (R69). -/
def damp (s : State) : State :=
  if s.usable .jointAngle = false ∨ s.faults.levels.joint = .safe then
    s.setJoint { s.joint with damper := s.param 4 28, mode := .stiff }
  else if s.motion.status = .lost ∨ s.faults.levels.joint = .reduced then
    s.setJoint { s.joint with damper := damperPressure s (greatestGain s), mode := .normal }
  else
    s.setJoint { s.joint with damper := damperPressure s (damperGain s s.motion.speed), mode := .normal }

/-! ### Guard (R71 to R73) -/

/-- The guard watches (R71). -/
def guardWatches (s : State) : Bool :=
  decide (s.motion.status = .valid) && !s.motion.standstill && s.usable .jointAngle && decide (s.faults.levels.joint = .full)

/-- The guard angle γmax at the speed in use (R68). -/
def guardAngle (s : State) : Int := interpolateAt (s.param 4) (fun i => s.param 4 (18 + i)) s.motion.speed

/-- The rate drives |γ| up by more than the level-2 rate (R72). -/
def drivesUp (s : State) : Bool :=
  let g := s.value .jointAngle
  let r := s.joint.rate
  decide ((0 < g ∧ 0 < r) ∨ (g < 0 ∧ r < 0)) && decide (s.param 4 30 < mag r)

/-- The level after the three rise tests, one after the other (R72). -/
def guardRise (s : State) : Nat :=
  let g := mag (s.value .jointAngle)
  let a := guardAngle s
  let l1 := if s.joint.guard = 0 ∧ a < g then 1 else s.joint.guard
  let l2 := if (l1 = 0 ∨ l1 = 1) ∧ a + s.param 4 29 < g then 2 else l1
  if l2 = 1 ∧ drivesUp s then 2 else l2

/-- The fall condition of a level (R73); level 0 has none. -/
def guardFalls (s : State) (level : Nat) : Bool :=
  let g := mag (s.value .jointAngle)
  let a := guardAngle s
  match level with
  | 2 => decide (g < a + s.param 4 29 - s.param 4 31) && !drivesUp s
  | 1 => decide (g < a - s.param 4 31)
  | _ => false

/-- The guard evaluation of an event other than cycle start: level and timer (R71, R72). -/
def evalGuard (s : State) : State :=
  if guardWatches s then
    let l := guardRise s
    let t := if l ≠ s.joint.guard ∨ guardFalls s l = false then 0 else s.joint.guardTimer
    s.setJoint { s.joint with guard := l, guardTimer := t }
  else s.setJoint { s.joint with guard := 0, guardTimer := 0 }

/-! ### Torque limit and what the guard hands on (R75, R76) -/

/-- The torque limit the table of R75 gives. -/
def torqueLimit (s : State) : Int :=
  if s.usable .jointAngle = false ∨ s.motion.status = .lost ∨ s.faults.levels.joint ≠ .full then s.param 4 35
  else if s.joint.guard = 2 then s.param 4 34
  else if s.joint.guard = 1 then s.param 4 33
  else 1000

/-- Derive the torque limit; a new value goes to the drive record (R75, R134). -/
def deriveTorque (s : State) : State :=
  let t := torqueLimit s
  if t = s.joint.torque then s else (s.setJoint { s.joint with torque := t }).setDrive { s.drive with torque := t }

/-- The joint angle a GUARD-LEVEL notice carries: 0 when the record is unusable (R76). -/
def guardNoticeAngle (s : State) : Int := if s.usable .jointAngle then s.value .jointAngle else 0

/-- The speed a notice carries: 0 when LOST (R76, R163; R190 against them: assumption 53). -/
def noticeSpeed (s : State) : Int := if s.motion.status = .valid then s.motion.speed else 0

/-- Report a change of the guard level from an old one: the brake resolver resolves, GUARD-2 is raised or its cause ended, and
GUARD-LEVEL is sent (R76, R137), in this order (assumption 55). -/
def reportGuard (old : Nat) (s : State) : State :=
  if s.joint.guard = old then s
  else
    let s1 := resolveAxles s
    let s2 := if s1.joint.guard = 2 then listFault .guard2 0 s1 else if old = 2 then listEnd .guard2 0 s1 else s1
    sendNotice .guardLevel [s2.joint.guard, old, guardNoticeAngle s2, noticeSpeed s2] s2

/-- Guard evaluation, damper, torque limit, and the reports at the end of the event (R65, R76). -/
def jointWork (s : State) : State := reportGuard s.joint.guard (deriveTorque (damp (evalGuard s)))

/-- The joint record at an event of R65 that changes neither history nor rate: a change of the motion state or of the joint
level, or a swap of T4. In CONFIG it is unchanged (R64). -/
def jointEvent (s : State) : State := if s.running then jointWork s else s

/-- The joint record at a JOINT-ANGLE report, with an accepted sample or with a change of status alone (R65). -/
def jointReport (accepted : Bool) (s : State) : State :=
  if s.running then jointWork (if accepted then jointSampled s else jointStatus s) else s

/-- The fall test of a cycle start: the guard timer, and the level when it has held long enough (R73). -/
def fallTest (s : State) : State :=
  if guardFalls s s.joint.guard then
    if s.param 4 32 ≤ ((s.joint.guardTimer + 1 : Nat) : Int) then
      s.setJoint { s.joint with guard := s.joint.guard - 1, guardTimer := 0 }
    else s.setJoint { s.joint with guardTimer := s.joint.guardTimer + 1 }
  else s.setJoint { s.joint with guardTimer := 0 }

/-- The joint record's cycle-start work (R65, R73). -/
def jointCycle (s : State) : State :=
  if s.running ∧ guardWatches s ∧ (s.joint.guard = 1 ∨ s.joint.guard = 2) then
    let s1 := fallTest s
    if s1.joint.guard = s.joint.guard then s1 else reportGuard s.joint.guard (deriveTorque (damp s1))
  else s

/-- The joint record at START (R77), without the raise of JOINT-ANGLE-LOST. -/
def jointStart (s : State) : State :=
  let s1 := s.setJoint { s.joint with history := [], rate := 0, guard := 0, guardTimer := 0 }
  let s2 := if guardWatches s1 then evalGuard s1 else s1
  reportGuard 0 (deriveTorque (damp s2))

/-- The joint record at the entry into CONFIG: the reset values; a guard level that falls to 0 is reported (R64, R76); the cause
of JOINT-ANGLE-LOST ends (R70). -/
def jointConfig (s : State) : State :=
  listEnd .jointAngleLost 0 (reportGuard s.joint.guard (s.setJoint Joint.reset))

end Sys2Proof.Machine
end

