-- ==== Sys2Proof/Machine/Height.lean ====
section
/-! DEFINITION. The corners, the fill-slot arbiter and the axle loads (chapter 5). What a corner does on its own is a function
of its record; the arbiter is a function of the state. The air record and its faults stand in Faults.lean. -/

namespace Sys2Proof.Machine

/-! ### Parameters and records -/

/-- A corner record by its index. -/
def State.corner (s : State) (c : Fin 6) : Corner := s.corners[c]

/-- The state with another record of one corner. -/
def State.setCorner (s : State) (c : Fin 6) (k : Corner) : State := s.setCorners (s.corners.set c k)

/-- A corner is a kneel corner of the active T5 (5.1). -/
def State.kneelCorner (s : State) (c : Fin 6) : Bool := s.member 5 9 c.val

/-- The ride target of a corner (T5). -/
def State.rideTarget (s : State) (c : Fin 6) : Int := s.param 5 (3 + c.val)

/-- The standstill deadband (T5). -/
def deadband (s : State) : Int := s.param 5 11

/-- The standstill deadband half (R94). -/
def deadbandHalf (s : State) : Int := divDown (deadband s) 2

/-- The settle time (T5). -/
def settleTime (s : State) : Nat := (s.param 5 16).toNat

/-- The minimum pulse (T5). -/
def minimumPulse (s : State) : Nat := (s.param 5 15).toNat

/-- The kneel states in which the kneel corners stand under the kneel: LOWERING, KNELT and RAISING (R87, R92). -/
def KneelState.lowered : KneelState → Bool
  | .level => false | .waitHold => false | .lowering => true | .knelt => true | .raising => true

/-- The target of a corner (R86). -/
def cornerTarget (s : State) (c : Fin 6) : Int :=
  if s.kneelCorner c ∧ (s.kneel.state = .lowering ∨ s.kneel.state = .knelt) then s.rideTarget c - s.param 5 10
  else s.rideTarget c

/-- The priority class of a corner (R86). -/
def cornerClass (s : State) (c : Fin 6) : FillClass :=
  if s.kneelCorner c ∧ s.kneel.state = .raising then .one else .two

/-- The error of a target and a height (R86). -/
def cornerError (target height : Int) : Int := clamp (-32767) 32767 (target - height)

/-- A kneel corner stands on the axle of a corner (R87). -/
def kneelOnAxle (s : State) (c : Fin 6) : Bool :=
  s.kneelCorner (leftCorner (axleOf c)) || s.kneelCorner (rightCorner (axleOf c))

/-- The condition of the freeze cause KNEEL (R87). -/
def kneelFreeze (s : State) (c : Fin 6) : Bool := s.kneel.state.lowered && !s.kneelCorner c && kneelOnAxle s c

/-- A corner is frozen while it has a freeze cause (R87). -/
def Corner.frozen (k : Corner) : Bool := k.frozenHeight || k.frozenTimeout || k.frozenKneel

/-- A corner is in a valve run (5.6). -/
def Valve.inRun : Valve → Bool
  | .hold => false | .waitFill => false | .filling => true | .exhausting => true

/-- A corner takes the kneel evaluation in place of R89 and R90, and no suspension (R92). -/
def kneelActive (s : State) (c : Fin 6) : Bool := s.kneelCorner c && s.kneel.state.lowered

/-! ### Changes of one corner's record -/

/-- A run begins (R89). -/
def Corner.beginRun (v : Valve) (k : Corner) : Corner :=
  { k with valve := v, pulse := 0, run := 0, runStart := k.height, persist := 0 }

/-- A run ends: HOLD, timers 0, settling (R94). -/
def Corner.endRun (settle : Nat) (k : Corner) : Corner := { k with valve := .hold, pulse := 0, run := 0, settle := settle }

/-- A filling corner sent back to the wait: by a withdrawal of permission, a pre-emption or a smaller S (R85, R97, R98). -/
def Corner.backToWait (k : Corner) : Corner := { k with valve := .waitFill, pulse := 0, run := 0 }

/-- A corner that leaves the wait (R93). -/
def Corner.leaveWait (k : Corner) : Corner := { k with valve := .hold, settle := 0 }

/-- A corner set to HOLD by its first freeze cause (R87). -/
def Corner.halt (settle : Nat) (k : Corner) : Corner :=
  { k with valve := .hold, pulse := 0, run := 0, persist := 0, dir := .none, settle := settle }

/-- A corner that gains a freeze cause is first set to HOLD, unless it is frozen already (R87). -/
def Corner.haltUnlessFrozen (settle : Nat) (k : Corner) : Corner := if k.frozen then k else k.halt settle

/-- The side of an error outside the moving deadband (R90). -/
def movingDir (band e : Int) : PersistDir := if band < e then .up else if e < -band then .down else .none

/-- The decision on an error outside the standstill deadband: WAIT-FILL, an EXHAUSTING run, or none (R89, R92). -/
def Corner.levelOut (band : Int) (k : Corner) : Corner :=
  if band < k.error then { k with valve := .waitFill }
  else if k.error < -band then k.beginRun .exhausting
  else k

/-- The end test is met: in the band and past the minimum pulse (R94). -/
def Corner.runOver (half : Int) (pulse : Nat) (k : Corner) : Bool :=
  match k.valve with
  | .filling => decide (k.error ≤ half) && decide (pulse ≤ k.pulse)
  | .exhausting => decide (-half ≤ k.error) && decide (pulse ≤ k.pulse)
  | .hold => false
  | .waitFill => false

/-- The end test of a corner in a run (R94). -/
def endTest (s : State) (k : Corner) : Corner :=
  if k.runOver (deadbandHalf s) (minimumPulse s) then k.endRun (settleTime s) else k

/-- A run in the direction opposite to the error ends at a kneel evaluation (R92). -/
def Corner.opposed (k : Corner) : Bool :=
  match k.valve with
  | .filling => decide (k.error < 0)
  | .exhausting => decide (0 < k.error)
  | .hold => false
  | .waitFill => false

/-- The kneel evaluation at a change of the kneel state, whatever the settle timer (R92). The end of an opposed run sets its timers
as the end test of R94 does (assumption 69). A corner already in a run toward its target goes on with that run (assumption
70). -/
def kneelEvaluate (s : State) (k : Corner) : Corner :=
  if k.frozen then k
  else
    let k1 := if k.opposed then k.endRun (settleTime s) else k
    if k1.valve.inRun then k1 else k1.levelOut (deadband s)

/-! ### Suspension (R91) -/

/-- Levelling in motion is suspended (R91). -/
def suspended (s : State) : Bool :=
  !s.motion.standstill
    && (!s.usable .frontAngle || decide (s.param 5 14 < mag (s.value .frontAngle)) || !s.jointStraight || s.braking)

/-- What a suspension does to a corner of class 2 (R91, R93). -/
def Corner.suspend (settle : Nat) (k : Corner) : Corner :=
  match k.valve with
  | .hold => { k with persist := 0, dir := .none }
  | .waitFill => { k.leaveWait with persist := 0, dir := .none }
  | .filling => k.endRun settle
  | .exhausting => k.endRun settle

/-- The suspension test of a corner (R91): class-1 corners and kneel runs are not suspended, and a frozen corner has nothing to
suspend. -/
def suspendTest (s : State) (c : Fin 6) (k : Corner) : Corner :=
  if suspended s ∧ k.cls = .two ∧ kneelActive s c = false ∧ k.frozen = false then k.suspend (settleTime s) else k

/-- The suspension test of every corner (R82: FRONT-ANGLE reported). -/
def suspendAll (s : State) : State := s.setCorners (Vector.ofFn fun c => suspendTest s c s.corners[c])

/-! ### The fill-slot arbiter (5.7) -/

/-- The air level permits a class (R85). -/
def airPermits : AirLevel → FillClass → Bool
  | .normal, _ => true
  | .restricted, .one => true
  | .restricted, .two => false
  | .reserve, _ => false
  | .unknown, .one => true
  | .unknown, .two => false

/-- The height level permits a class (R85). -/
def levelPermits : Level → FillClass → Bool
  | .full, _ => true
  | .reduced, .one => true
  | .reduced, .two => false
  | .safe, _ => false

/-- A fill of a class is permitted (R85). -/
def fillPermitted (s : State) (cls : FillClass) : Bool :=
  airPermits s.air.level cls && levelPermits s.faults.levels.height cls

/-- The fill slot count S (T5). -/
def slotCount (s : State) : Int := s.param 5 19

/-- The corners in FILLING, which are those that hold a slot. -/
def fillers (s : State) : List (Fin 6) := cornerIx.filter (fun c => decide ((s.corner c).valve = .filling))

/-- The corners in FILLING, counted. -/
def slotsHeld (s : State) : Nat := (fillers s).length

/-- A corner stands before another in the order of R96, leaving the index out. -/
def Corner.before (a b : Corner) : Bool :=
  match a.cls, b.cls with
  | .one, .two => true
  | .two, .one => false
  | .one, .one => decide (mag b.error < mag a.error)
  | .two, .two => decide (mag b.error < mag a.error)

/-- The corner that stands first in the order of R96 among those of a list in index order. -/
def firstOf (s : State) : List (Fin 6) → Option (Fin 6)
  | [] => none
  | c :: cs =>
    match firstOf s cs with
    | none => some c
    | some d => if (s.corner d).before (s.corner c) then some d else some c

/-- The corner that stands last in the order of R96 among those of a list in index order. -/
def lastOf (s : State) : List (Fin 6) → Option (Fin 6)
  | [] => none
  | c :: cs =>
    match lastOf s cs with
    | none => some c
    | some d => if (s.corner d).before (s.corner c) then some c else some d

/-- The waiting corners whose fill is permitted (R96). -/
def waiting (s : State) : List (Fin 6) :=
  cornerIx.filter (fun c => decide ((s.corner c).valve = .waitFill) && fillPermitted s (s.corner c).cls)

/-- The waiting corners of class 1 whose fill is permitted (R97). -/
def waitingFirst (s : State) : List (Fin 6) := (waiting s).filter (fun c => decide ((s.corner c).cls = .one))

/-- The holders of class 2 (R97). -/
def holdersSecond (s : State) : List (Fin 6) := (fillers s).filter (fun c => decide ((s.corner c).cls = .two))

/-- Grant a slot to a corner: it enters FILLING and its run begins (R96). -/
def grant (c : Fin 6) (s : State) : State := s.setCorner c ((s.corner c).beginRun .filling)

/-- Return a holder to the wait (R85, R97, R98). -/
def returnHolder (c : Fin 6) (s : State) : State := s.setCorner c (s.corner c).backToWait

/-- The grants of R96, at most n of them. -/
def grants : Nat → State → State
  | 0, s => s
  | n + 1, s =>
    if (slotsHeld s : Int) < slotCount s then
      match firstOf s (waiting s) with
      | some c => grants n (grant c s)
      | none => s
    else s

/-- The pre-emptions of R97, at most n of them: the class-2 holder last in the order of R96 gives its slot to the first waiting
corner of class 1. -/
def preempts : Nat → State → State
  | 0, s => s
  | n + 1, s =>
    if slotCount s ≤ (slotsHeld s : Int) then
      match firstOf s (waitingFirst s), lastOf s (holdersSecond s) with
      | some w, some v => preempts n (grant w (returnHolder v s))
      | _, _ => s
    else s

/-- Holders returned to the wait until the count is within S, at most n of them (R98). -/
def shedSlots : Nat → State → State
  | 0, s => s
  | n + 1, s =>
    if slotCount s < (slotsHeld s : Int) then
      match lastOf s (fillers s) with
      | some v => shedSlots n (returnHolder v s)
      | none => s
    else s

/-- The fill-slot arbiter (R96, R97). Six corners bound both loops. -/
def arbitrate (s : State) : State := preempts 6 (grants 6 s)

/-- Withdraw the fills whose class is refused (R85). -/
def withdraw (s : State) : State :=
  s.setCorners (s.corners.map fun k =>
    if k.valve = .filling ∧ fillPermitted s k.cls = false then k.backToWait else k)

/-- The height unit at a change of the height level: the fills whose permission is gone are withdrawn (R85). The change comes
within an event of the air record (R84), at whose end the arbiter runs once (R82; assumption 29). -/
def heightLevelChanged (s : State) : State := if s.running then withdraw s else s

/-! ### HEIGHT reports -/

/-- A usable height taken into the record: height and error, and no freeze for HEIGHT-LOST (R86, R87). -/
def takeHeight (s : State) (c : Fin 6) (k : Corner) : Corner :=
  let h := s.value (.height c)
  { k with height := h, error := cornerError k.target h, frozenHeight := false }

/-- The decision of a settled corner in HOLD at an accepted sample: the kneel evaluation (R92), the standstill decision (R89),
or in motion the persistence test without counting (R90). -/
def decideSettled (s : State) (c : Fin 6) (k : Corner) : Corner :=
  if k.valve = .hold ∧ k.settle = 0 then
    if kneelActive s c ∨ s.motion.standstill then k.levelOut (deadband s)
    else if movingDir (s.param 5 12) k.error = .none ∨ movingDir (s.param 5 12) k.error ≠ k.dir then
      { k with persist := 0, dir := .none }
    else k
  else k

/-- A corner in WAIT-FILL at a HEIGHT-c report (R93). -/
def waitTest (s : State) (k : Corner) : Corner :=
  if k.valve = .waitFill ∧ k.error ≤ deadbandHalf s then k.leaveWait else k

/-- What a usable HEIGHT-c report does to its corner, once the height is taken (R82). -/
def heightTests (accepted : Bool) (s : State) (c : Fin 6) (k : Corner) : Corner :=
  if k.frozen then k
  else suspendTest s c (waitTest s (if accepted then decideSettled s c (endTest s k) else k))

/-- Corner c at a HEIGHT-c report (R82, R87). `was` says whether the record was usable before. -/
def heightReport (c : Fin 6) (accepted was : Bool) (s : State) : State :=
  if s.running then
    if s.usable (.height c) then
      listEnd .heightLost c.val (s.setCorner c (heightTests accepted s c (takeHeight s c (s.corner c))))
    else if was then
      listFault .heightLost c.val
        (s.setCorner c { (s.corner c).haltUnlessFrozen (settleTime s) with frozenHeight := true })
    else s
  else s

/-! ### Motion and cycle start -/

/-- A corner at a change of the motion state: a waiting class-2 corner leaves the wait when standstill clears (R93), and the
suspension test is made (R91). The setting of standstill leaves the persistence timer and direction as they stand (R90: assumption
63). -/
def motionCorner (cleared : Bool) (s : State) (c : Fin 6) (k : Corner) : Corner :=
  suspendTest s c (if cleared ∧ k.valve = .waitFill ∧ k.cls = .two then k.leaveWait else k)

/-- The corners at a change of the motion state, and the arbiter (R82). -/
def cornersMotion (cleared : Bool) (s : State) : State :=
  if s.running then arbitrate (s.setCorners (Vector.ofFn fun c => motionCorner cleared s c s.corners[c])) else s

/-- The settle timer's count (R88 step 1). -/
def Corner.countSettle (k : Corner) : Corner := { k with settle := k.settle - 1 }

/-- The pulse and run timers' count (R88 step 2). A pulse timer above a minimum pulse that a swap has lowered takes the new minimum
(assumption 26). -/
def Corner.countRun (pulse : Nat) (k : Corner) : Corner := { k with pulse := min pulse (k.pulse + 1), run := k.run + 1 }

/-- The timeout of a corner's run (R95). -/
def runTimeout (s : State) (k : Corner) : Int := if k.valve = .filling then s.param 5 17 else s.param 5 18

/-- The improvement of a run in its window (R95). -/
def Corner.improvement (k : Corner) : Int := if k.valve = .filling then k.height - k.runStart else k.runStart - k.height

/-- A run has timed out (R95). -/
def timedOut (s : State) (k : Corner) : Bool := k.valve.inRun && decide (runTimeout s k < (k.run : Int))

/-- A corner raises CORNER-TIMEOUT, whose cause ends as it is raised, and is frozen (R87, R95). -/
def cornerTimeout (c : Fin 6) (s : State) : State :=
  listEnd .cornerTimeout c.val (listFault .cornerTimeout c.val
    (s.setCorner c { (s.corner c).haltUnlessFrozen (settleTime s) with frozenTimeout := true }))

/-- The timeout test of a corner still in a run (R95). -/
def timeoutTest (c : Fin 6) (s : State) : State :=
  let k := s.corner c
  if timedOut s k then
    if 5 ≤ k.improvement then s.setCorner c { k with run := 0, runStart := k.height } else cornerTimeout c s
  else s

/-- The persistence timer and direction after a count (R90). -/
def Corner.countPersist (d : PersistDir) (k : Corner) : Corner :=
  match d with
  | .none => { k with persist := 0, dir := .none }
  | .up => if k.dir = .up then { k with persist := k.persist + 1 } else { k with persist := 1, dir := .up }
  | .down => if k.dir = .down then { k with persist := k.persist + 1 } else { k with persist := 1, dir := .down }

/-- The act of a corner whose persistence has run (R90). -/
def Corner.act (k : Corner) : Corner :=
  match k.dir with
  | .up => { k with valve := .waitFill, persist := 0, dir := .none }
  | .down => { k.beginRun .exhausting with persist := 0, dir := .none }
  | .none => k

/-- The persistence count of a moving corner in HOLD, not frozen, settled, not suspended and under no kneel (R90, R92). -/
def persistCount (s : State) (c : Fin 6) (k : Corner) : Corner :=
  if k.valve = .hold ∧ k.settle = 0 ∧ k.frozen = false ∧ s.motion.standstill = false ∧ kneelActive s c = false
      ∧ suspended s = false then
    let k1 := k.countPersist (movingDir (s.param 5 12) k.error)
    if s.param 5 13 ≤ (k1.persist : Int) then k1.act else k1
  else k

/-- The timers of a corner at a cycle start, up to the end test (R88 steps 1 and 2). -/
def cornerTimers (s : State) (k : Corner) : Corner :=
  if k.valve.inRun ∧ k.frozen = false then endTest s (k.countRun (minimumPulse s)) else k.countSettle

/-- One corner's cycle-start work (R88): timers, end test, timeout test, suspension test, persistence. -/
def cornerCycle (c : Fin 6) (s : State) : State :=
  let s1 := timeoutTest c (s.setCorner c (cornerTimers s (s.corner c)))
  s1.setCorner c (persistCount s1 c (suspendTest s1 c (s1.corner c)))

/-- The corners' cycle-start work, and the arbiter (R82, R88). -/
def cornersCycle (s : State) : State :=
  if s.running then arbitrate (cornerIx.foldl (fun x c => cornerCycle c x) s) else s

/-! ### Change of the kneel state -/

/-- A corner with its target, class and error of the moment (R86). -/
def retargetCorner (s : State) (c : Fin 6) (k : Corner) : Corner :=
  { k with target := cornerTarget s c, cls := cornerClass s c, error := cornerError (cornerTarget s c) k.height }

/-- A corner with its kneel freeze of the moment (R87). -/
def freezeKneel (s : State) (c : Fin 6) (k : Corner) : Corner :=
  if kneelFreeze s c then { k.haltUnlessFrozen (settleTime s) with frozenKneel := true } else { k with frozenKneel := false }

/-- A corner at a change of the kneel state: target and class, kneel freeze, and the kneel evaluation of a kneel corner whose
target changed or which is in class 1 (R86, R87, R92). -/
def kneelCornerChange (s : State) (c : Fin 6) (k : Corner) : Corner :=
  let k1 := freezeKneel s c (retargetCorner s c k)
  if s.kneelCorner c ∧ (k1.target ≠ k.target ∨ k1.cls = .one) then kneelEvaluate s k1 else k1

/-- The corners at a change of the kneel state; a class-2 fill then refused goes back to the wait; the arbiter (R105 steps 2
and 3, R86). -/
def cornersKneel (s : State) : State :=
  arbitrate (withdraw (s.setCorners (Vector.ofFn fun c => kneelCornerChange s c s.corners[c])))

/-! ### Axle loads (5.8) -/

/-- The fallback load of an axle: mmax of the active T5, 20000 while it is EMPTY (R100). -/
def fallbackLoad (s : State) (a : Fin 3) : Int := if s.tableValid 5 then s.param 5 (29 + a.val) else 20000

/-- The axle load from the load pressures, or the fallback load (R100). -/
def axleLoad (s : State) (a : Fin 3) : AxleLoad :=
  match (s.corner (leftCorner a)).loadPressure, (s.corner (rightCorner a)).loadPressure with
  | some l, some r =>
    if s.usable (.bellows (leftCorner a)) ∧ s.usable (.bellows (rightCorner a)) then
      { load := clamp (s.param 5 (26 + a.val)) (s.param 5 (29 + a.val))
          (s.param 5 (20 + a.val) + divDown ((l + r) * s.param 5 (23 + a.val)) 100)
        status := .estimated }
    else { load := fallbackLoad s a, status := .fallback }
  | some _, none => { load := fallbackLoad s a, status := .fallback }
  | none, _ => { load := fallbackLoad s a, status := .fallback }

/-- Recompute an axle load (R100). The report to the brake resolver comes at the end of the event (R82): `reportLoads`. -/
def reload (a : Fin 3) (s : State) : State := s.setLoads (s.loads.set a (axleLoad s a))

/-- Report the axle loads to the brake resolver at the end of an event, when one of them has changed since the loads `old` before
it; the resolver then resolves, once for all of them (R82, R100, R137; assumption 56). -/
def reportLoads (old : Vector AxleLoad 3) (s : State) : State := if s.loads = old then s else resolveAxles s

/-- Corner c at a usable BELLOWS-c report: the load pressure of a settled corner in HOLD (R99). -/
def takeBellows (s : State) (c : Fin 6) (k : Corner) : Corner :=
  if k.valve = .hold ∧ k.settle = 0 then { k with loadPressure := some (clamp 0 1000 (s.value (.bellows c))) } else k

/-- Corner c at a BELLOWS-c report: load pressure, then the suspension test of a report that reaches the corner (R91; assumption
28), BELLOWS-LOST, the load of its axle (R99, R100). -/
def bellowsReport (c : Fin 6) (was : Bool) (s : State) : State :=
  if s.running then
    if s.usable (.bellows c) then
      reload (axleOf c) (listEnd .bellowsLost c.val (s.setCorner c (suspendTest s c (takeBellows s c (s.corner c)))))
    else
      let s1 := s.setCorner c (suspendTest s c (s.corner c))
      reload (axleOf c) (if was then listFault .bellowsLost c.val s1 else s1)
  else s

/-! ### START, swap of T5 and CONFIG -/

/-- A corner at START: height when usable, else frozen for HEIGHT-LOST; target; settling (R81 step 2). -/
def cornerStart (c : Fin 6) (s : State) : State :=
  let k := retargetCorner s c { Corner.reset with settle := settleTime s }
  if s.usable (.height c) then s.setCorner c (takeHeight s c k)
  else listFault .heightLost c.val (s.setCorner c { k with frozenHeight := true })

/-- BELLOWS-LOST at START (R81 step 3). -/
def bellowsStart (c : Fin 6) (s : State) : State := if s.usable (.bellows c) then s else listFault .bellowsLost c.val s

/-- The corners and the axle loads at START (R81 steps 2 to 4). The fallback loads are those of the T5 then active
(assumption 41). -/
def cornersStart (s : State) : State :=
  cornerIx.foldl (fun x c => bellowsStart c x)
    (cornerIx.foldl (fun x c => cornerStart c x)
      (s.setLoads (Vector.ofFn fun a => { load := fallbackLoad s a, status := .fallback })))

/-- A corner at a swap of T5: target and class, kneel freeze (R102). -/
def swapCorner (s : State) (c : Fin 6) (k : Corner) : Corner := freezeKneel s c (retargetCorner s c k)

/-- A settled corner takes the standstill decision of a swap of T5 (R89, R102). -/
def swapDecide (s : State) (k : Corner) : Corner :=
  if k.valve = .hold ∧ k.frozen = false ∧ k.settle = 0 then k.levelOut (deadband s) else k

/-- The corners at a swap of T5 in RUN or STOPPING, after the air level: targets, classes and freezes; the slot count; the
decisions; the axle loads; the arbiter (R102, R98). -/
def cornersSwap (s : State) : State :=
  let s1 := withdraw (s.setCorners (Vector.ofFn fun c => swapCorner s c s.corners[c]))
  let s2 := shedSlots 6 s1
  let s3 := s2.setCorners (s2.corners.map (swapDecide s2))
  arbitrate (axleIx.foldl (fun x a => reload a x) s3)

/-- The end of the corner faults at the entry into CONFIG (R80). -/
def cornerFaultsEnd (c : Fin 6) (s : State) : State :=
  listEnd .cornerTimeout c.val (listEnd .bellowsLost c.val (listEnd .heightLost c.val s))

/-- The corners, the slots and the axle loads at the entry into CONFIG (R80). -/
def cornersConfig (s : State) : State :=
  cornerIx.foldl (fun x c => cornerFaultsEnd c x)
    ((s.setCorners (Vector.replicate 6 Corner.reset)).setLoads
      (Vector.ofFn fun a => { load := fallbackLoad s a, status := .fallback }))

end Sys2Proof.Machine
end

