-- ==== Sys2Proof/Machine/Faults.lean ====
section
/-! DEFINITION. Raising a fault and ending its cause with the reports of changed levels (R167, R168, R172), CLEAR-FAULTS (R169 to
R171), and the two jobs whose faults change a level of their own unit: the air record (5.3) and the tracking test (R62). -/

namespace Sys2Proof.Machine

/-! ### Level reports (R172) -/

/-- Report a changed steering level to the running-gear unit. -/
def reportSteering (old : Levels) (s : State) : State :=
  if s.faults.levels.steering = old.steering then s else rearLevelChanged s

/-- Report a changed joint level to the running-gear unit. -/
def reportJoint (old : Levels) (s : State) : State := if s.faults.levels.joint = old.joint then s else jointEvent s

/-- Report a changed height level to the height unit. -/
def reportHeight (old : Levels) (s : State) : State := if s.faults.levels.height = old.height then s else heightLevelChanged s

/-- Report a changed brake level to the brake resolver. -/
def reportBrake (old : Levels) (s : State) : State := if s.faults.levels.brake = old.brake then s else brakeLevelChanged s

/-- Report each level that differs from its value before the event (R172). -/
def reportLevels (old : Levels) (s : State) : State :=
  reportBrake old (reportHeight old (reportJoint old (reportSteering old s)))

/-- Raise a fault (R167). -/
def raiseFault (c : FaultCode) (subject : Nat) (s : State) : State :=
  reportLevels s.faults.levels (listFault c subject s)

/-- Report that a fault's cause has ended (R168). -/
def endCause (c : FaultCode) (subject : Nat) (s : State) : State :=
  reportLevels s.faults.levels (listEnd c subject s)

/-! ### CLEAR-FAULTS (R169 to R171) -/

/-- An entry that CLEAR-FAULTS takes at standstill although it is ACTIVE: latched, its cause ended (R169). -/
def FaultEntry.clearable (e : FaultEntry) : Bool := e.active && e.code.latched && !e.present

/-- An entry that CLEAR-FAULTS removes (R169). -/
def FaultEntry.clears (standstill : Bool) (e : FaultEntry) : Bool := !e.active || (standstill && e.clearable)

/-- The FAULT-HEALED notices of a CLEAR-FAULTS, from the head of the list (R169, R174). -/
def healCleared : List FaultEntry → State → State
  | [], s => s
  | e :: es, s =>
    healCleared es (if e.clearable then sendNotice .faultHealed [e.code.code, e.subject, 1, e.count] s else s)

/-- The list holds an entry of CORNER-TIMEOUT for a corner. -/
def timeoutListed (l : List FaultEntry) (c : Fin 6) : Bool := l.any (FaultEntry.isFor .cornerTimeout c.val)

/-- The removals of CORNER-TIMEOUT that a CLEAR-FAULTS reports: those of the entries it removed, and at standstill every corner
without an entry (R171). -/
def reportCleared (standstill : Bool) (removed : List FaultEntry) (s : State) : State :=
  cornerIx.foldl (fun x c =>
    if timeoutListed removed c ∨ (standstill ∧ timeoutListed x.faults.list c = false) then unfreezeTimeout c x else x) s

/-- CLEAR-FAULTS at the fault unit (R169): one event, the levels and lamps derived once at its end. -/
def clearFaults (s : State) : State :=
  let still := s.motion.standstill
  let s1 := if still then healCleared s.faults.list s else s
  let s2 := s1.setFaults
    { s1.faults.withList (s1.faults.list.filter (fun e => !e.clears still)) with overflow := 0 }
  reportCleared still (s.faults.list.filter (fun e => e.clears still)) (reportLevels s.faults.levels s2)

/-! ### The air record (R83, R84) -/

/-- The air level after an evaluation with a usable pressure (R83). -/
def airLevelAfter (cutIn reserve : Int) (old : AirLevel) (p : Int) : AirLevel :=
  match old with
  | .unknown => if cutIn ≤ p then .normal else if reserve ≤ p then .restricted else .reserve
  | .normal => if cutIn ≤ p then .normal else if reserve ≤ p then .restricted else .reserve
  | .restricted => if cutIn + 20 ≤ p then .normal else if reserve ≤ p then .restricted else .reserve
  | .reserve => if cutIn + 20 ≤ p then .normal else if reserve + 20 ≤ p then .restricted else .reserve

/-- The air record after an evaluation (R83). -/
def airAfter (s : State) : Air :=
  if s.usable .reservoir then
    let p := clamp 0 1500 (s.value .reservoir)
    { pressure := p, level := airLevelAfter (s.param 5 0) (s.param 5 1) s.air.level p }
  else { s.air with level := .unknown }

/-- The faults of a change of the air level: the cause of the level left ends, then that of the level entered is raised (R84). -/
def airFaults (old new : AirLevel) (s : State) : State :=
  if old = new then s
  else
    let s1 := if old = .reserve then endCause .reservoirLow 0 s else if old = .unknown then endCause .reservoirLost 0 s else s
    if new = .reserve then raiseFault .reservoirLow 0 s1 else if new = .unknown then raiseFault .reservoirLost 0 s1 else s1

/-- Evaluate the air record (R83): the level, the fills a lost permission withdraws (R85), the faults. -/
def evalAir (s : State) : State := airFaults s.air.level (airAfter s).level (withdraw (s.setAir (airAfter s)))

/-- The RESERVOIR report (R82). -/
def airReport (s : State) : State := if s.running then evalAir s else s

/-- The air record at START: evaluated from UNKNOWN; a level then RESERVE or UNKNOWN raises its fault (R81, R84). -/
def airStart (s : State) : State :=
  let s1 := s.setAir (airAfter { s with air := Air.reset })
  if s1.air.level = .reserve then raiseFault .reservoirLow 0 s1
  else if s1.air.level = .unknown then raiseFault .reservoirLost 0 s1
  else s1

/-- The air record at the entry into CONFIG, and the end of its faults (R80). -/
def airConfig (s : State) : State := endCause .reservoirLost 0 (endCause .reservoirLow 0 (s.setAir Air.reset))

/-! ### The tracking test and the command step of a cycle start (R59, R62) -/

/-- The tracking timer after a test, and the raise or the end of the cause that goes with it (R62). -/
def trackWork (s : State) : State :=
  let r := trackTest s
  let s1 := s.setRear { s.rear with trackTimer := r.1 }
  if r.2 then raiseFault .rearTracking 0 s1
  else if r.1 = 0 ∧ s.rear.trackTimer ≠ 0 then endCause .rearTracking 0 s1
  else s1

/-- The rear-steer record's cycle-start work: tracking test, then command step (R59). -/
def rearCycle (s : State) : State := if s.rear.state = .parked then s else stepCommand (trackWork s)

end Sys2Proof.Machine
end

