-- ==== Sys2Proof/Machine/Kneel.lean ====
section
/-! DEFINITION. The kneel record (chapter 6). Each change of the kneel state is worked in the order of R105; a change that a
completion test makes within it follows it, its notice after the first one's (assumption 14). -/

namespace Sys2Proof.Machine

/-- The KNEEL-STATE notice (R117): the timer is that before the change. -/
def kneelNotice (new old : KneelState) (cause : KneelCause) (timer : Nat) (s : State) : State :=
  sendNotice .kneelState [new.code, old.code, cause.code, timer] s

/-- Every kneel corner meets a test on its index (R109, R115). -/
def allKneelCorners (s : State) (test : Fin 6 → Bool) : Bool := cornerIx.all (fun c => !s.kneelCorner c || test c)

/-- The raising completion test (R115). -/
def raisingDone (s : State) : Bool :=
  allKneelCorners s (fun c => s.usable (.height c) && decide (s.rideTarget c - s.param 5 36 ≤ (s.corner c).height))

/-- The lowering completion test (R109). -/
def loweringDone (s : State) : Bool :=
  allKneelCorners s (fun c =>
    s.usable (.height c) && decide (mag ((s.corner c).height - (s.rideTarget c - s.param 5 10)) ≤ s.param 5 35))

/-- The kneel becomes LEVEL: the record, the claim removed, the corners and the arbiter, KNEEL-STATE; the cause of KNEEL-TIMEOUT
ends (R105, R106, R116). -/
def toLevel (cause : KneelCause) (s : State) : State :=
  let s1 := removeClaim .kneel (s.setKneel { s.kneel with state := .level, timer := 0 })
  listEnd .kneelTimeout 0 (kneelNotice .level s.kneel.state cause s.kneel.timer (cornersKneel s1))

/-- The completion test of RAISING (R115). -/
def completeRaising (s : State) : State := if s.kneel.state = .raising ∧ raisingDone s then toLevel .targetReached s else s

/-- The kneel becomes RAISING (R115). -/
def toRaising (cause : KneelCause) (s : State) : State :=
  completeRaising (kneelNotice .raising s.kneel.state cause s.kneel.timer
    (cornersKneel (s.setKneel { s.kneel with state := .raising, timer := 0, timeoutFlag := false })))

/-- Raise on drive: ON, KNELT and the drive asked (R113). -/
def driveRaise (s : State) : State :=
  if s.kneel.state = .knelt ∧ s.param 5 34 = 1 ∧ driveAsked s then toRaising .drive s else s

/-- The kneel becomes KNELT, and the raise-on-drive test is made (R109). -/
def toKnelt (cause : KneelCause) (s : State) : State :=
  driveRaise (kneelNotice .knelt s.kneel.state cause s.kneel.timer
    (cornersKneel (s.setKneel { s.kneel with state := .knelt, timer := 0 })))

/-- The completion test of LOWERING (R109). -/
def completeLowering (s : State) : State := if s.kneel.state = .lowering ∧ loweringDone s then toKnelt .targetReached s else s

/-- The kneel becomes LOWERING (R109). -/
def toLowering (cause : KneelCause) (s : State) : State :=
  completeLowering (kneelNotice .lowering s.kneel.state cause s.kneel.timer
    (cornersKneel (s.setKneel { s.kneel with state := .lowering, timer := 0 })))

/-- The completion test of the present state (R104). -/
def kneelCompletion (s : State) : State := if s.running then completeRaising (completeLowering s) else s

/-! ### Requests -/

/-- A kneel corner that may not kneel: its HEIGHT record unusable, or the corner frozen (R107 test 7). -/
def kneelCornersBad (s : State) : Bool := !allKneelCorners s (fun c => s.usable (.height c) && !(s.corner c).frozen)

/-- The acceptance tests of a KNEEL-LOWER in LEVEL, in the order of R107; NONE when all pass. -/
def lowerTests (s : State) : KneelRefusal :=
  if s.part ≠ .run then .notRun
  else if s.param 5 32 = 0 then .disabled
  else if s.motion.standstill = false then .moving
  else if s.jointStraight = false then .jointNotStraight
  else if s.faults.levels.height ≠ .full then .heightDegraded
  else if s.air.level ≠ .normal ∨ s.air.pressure < s.param 5 2 then .air
  else if kneelCornersBad s then .corner
  else .none

/-- A KNEEL-LOWER refused (R107, R117). -/
def refuseKneel (r : KneelRefusal) (s : State) : State :=
  sendNotice .kneelRefused [r.code, s.kneel.state.code, s.air.level.code, s.air.pressure]
    (s.setKneel { s.kneel with lastRefusal := r })

/-- A KNEEL-LOWER accepted (R108): the claim, WAIT-HOLD, and LOWERING when the hold then stands CONFIRMED, which a hold re-applied
from RELEASING may be at once (R127 against R108: assumption 57). The answer says whether the claim brought the hold into
CONFIRMED. -/
def acceptKneel (s : State) : State × Bool :=
  let r := addClaim .kneel s
  let s1 := kneelNotice .waitHold s.kneel.state .request s.kneel.timer
    (cornersKneel (r.1.setKneel { r.1.kneel with state := .waitHold, timer := 0 }))
  (if s1.hold.state = .confirmed then toLowering .holdConfirmed s1 else s1, r.2)

/-- A KNEEL-LOWER delivered to the height unit (R107). -/
def kneelLower (s : State) : State × Bool :=
  match s.kneel.state with
  | .level => if lowerTests s = .none then acceptKneel s else (refuseKneel (lowerTests s) s, false)
  | .raising => (refuseKneel .raising s, false)
  | .waitHold => (s, false)
  | .lowering => (s, false)
  | .knelt => (s, false)

/-- A KNEEL-RAISE delivered to the height unit (R111). -/
def kneelRaise (s : State) : State :=
  match s.kneel.state with
  | .waitHold => toLevel .request s
  | .lowering => toRaising .request s
  | .knelt => toRaising .request s
  | .level => s
  | .raising => s

/-! ### Reports and cycle start -/

/-- The clearing of standstill at the kneel record (R114). -/
def kneelMoving (s : State) : State :=
  match s.kneel.state with
  | .waitHold => toRaising .standstillLost s
  | .lowering => toRaising .standstillLost s
  | .knelt => toRaising .standstillLost s
  | .level => s
  | .raising => s

/-- The report that all four doors have become LOCKED, at the kneel record (R112). -/
def kneelDoors (s : State) : State :=
  if s.running ∧ s.param 5 33 = 1 ∧ (s.kneel.state = .lowering ∨ s.kneel.state = .knelt) then toRaising .doorsLocked s else s

/-- The report of the hold CONFIRMED at the kneel record (R108). -/
def kneelConfirmed (s : State) : State := if s.kneel.state = .waitHold then toLowering .holdConfirmed s else s

/-- The DRIVE-REQUEST report at the kneel record (R113). -/
def kneelDrive (s : State) : State := if s.running then driveRaise s else s

/-- The kneel timer in LOWERING (R110). -/
def loweringCycle (s : State) : State :=
  let s1 := s.setKneel { s.kneel with timer := s.kneel.timer + 1 }
  if s.param 5 37 < ((s.kneel.timer + 1 : Nat) : Int) then toRaising .loweringTimeout (listFault .kneelTimeout 0 s1) else s1

/-- The kneel timer in RAISING with the timeout flag clear (R116). -/
def raisingCycle (s : State) : State :=
  let s1 := s.setKneel { s.kneel with timer := s.kneel.timer + 1 }
  if s.param 5 38 < ((s.kneel.timer + 1 : Nat) : Int) then
    let s2 := (listFault .kneelTimeout 0 s1)
    kneelNotice .raising .raising .raisingTimeout s2.kneel.timer (s2.setKneel { s2.kneel with timeoutFlag := true })
  else s1

/-- The kneel record's cycle-start work (R110, R116). -/
def kneelCycle (s : State) : State :=
  if s.running then
    match s.kneel.state with
    | .lowering => loweringCycle s
    | .raising => if s.kneel.timeoutFlag then s else raisingCycle s
    | .level => s
    | .waitHold => s
    | .knelt => s
  else s

/-- The kneel record at START (R103): the values it already holds. -/
def kneelStart (s : State) : State := s.setKneel { s.kneel with state := .level, timer := 0, timeoutFlag := false }

/-- The kneel record at the entry into CONFIG (R103, R116): LEVEL, the claim removed, KNEEL-STATE with cause STOP when the state
changed, the cause of KNEEL-TIMEOUT ended. The corners take their own CONFIG values. -/
def kneelConfig (s : State) : State :=
  let s1 := s.setKneel { s.kneel with state := .level, timer := 0, timeoutFlag := false }
  if s.kneel.state = .level then s1
  else
    listEnd .kneelTimeout 0 (kneelNotice .level s.kneel.state .stop s.kneel.timer (removeClaim .kneel s1))

end Sys2Proof.Machine
end

