-- ==== Sys2Proof/Machine/Doors.lean ====
section
/-! DEFINITION. The door records and the edge lines (chapter 8). Doors count from 0 here; notices, requests and fault subjects
carry them from 1. Operations that may bring the hold into CONFIRMED, by the claim of a door that leaves LOCKED, answer that
beside the state; the caller has the report delivered once the door's change is complete (assumption 17). -/

namespace Sys2Proof.Machine

/-! ### Parameters (T7) -/

/-- The state with another record of one door. -/
def State.setDoor (s : State) (d : Fin 4) (x : Door) : State := s.setDoors (s.doors.set d x)

/-- A parameter of a door in T7, by its place in the door's eleven values (11.6). -/
def doorParam (s : State) (d : Fin 4) (k : Nat) : Int := s.param 7 (11 * d.val + k)

/-- The release mode of T7. -/
def modeOf (s : State) (d : Fin 4) : ReleaseMode := if doorParam s d 0 = 0 then .cabOpen else .passenger

/-- The gate of a door (R30). -/
def gateOf (s : State) (d : Fin 4) : Bool :=
  gateSatisfied (s.raw 7 (11 * d.val + 1)) (s.raw 7 (11 * d.val + 2)) s

/-- The reversal limit of a door (T7). -/
def reversalLimit (s : State) (d : Fin 4) : Int := doorParam s d 7

/-- The door's line is in LEVEL mode (T7). -/
def levelMode (s : State) (d : Fin 4) : Bool := s.tableValid 7 && decide (doorParam s d 9 = 1)

/-- The number of a door outside the part: 1 to 4. -/
def doorNumber (d : Fin 4) : Nat := d.val + 1

/-- The open permission (R146). -/
def openPermission (s : State) : Bool := s.motion.standstill && decide (s.hold.state = .confirmed)

/-! ### A change of a door's state (R145) -/

/-- The tone sounds in WARNING and EMERGENCY (R145). -/
def DoorState.tone : DoorState → Bool
  | .warning => true | .emergency => true | .unknown => false | .locked => false | .releaseWait => false | .released => false
  | .opening => false | .openState => false | .closing => false | .reversing => false | .fault => false

/-- The changes of state that clear the pending-release flag: the release taken up, a pull of the handle, a forced opening
(R149). Any other change keeps it (assumption 51). -/
def clearsPending (new : DoorState) (cause : DoorCause) : Bool :=
  decide (new = .releaseWait) || decide (new = .emergency) || decide (cause = .forced)

/-- A door record in a new state (R145 step 2). LOCKED sets the reversal count to 0 (R158). -/
def Door.enter (new : DoorState) (cause : DoorCause) (d : Door) : Door :=
  { d with state := new, timer := 0, closeDeferred := false, tone := new.tone
           pendingRelease := d.pendingRelease && !clearsPending new cause
           reversals := if new = .locked then 0 else d.reversals }

/-- The causes that end as a door leaves a state: DOOR-TIMEOUT and DOOR-MOVING with FAULT, DOOR-EMERGENCY with EMERGENCY (R152,
R155, R156, R159). Their place in the event is the model's (assumption 59). -/
def doorLeft (d : Fin 4) (old : DoorState) (s : State) : State :=
  if old = .fault then listEnd .doorMoving (doorNumber d) (listEnd .doorTimeout (doorNumber d) s)
  else if old = .emergency then listEnd .doorEmergency (doorNumber d) s
  else s

/-- A reversal count of 0 ends the cause of DOOR-OBSTRUCTION (R158). -/
def endObstruction (d : Fin 4) (s : State) : State := listEnd .doorObstruction (doorNumber d) s

/-- The fault a change of a door's state raises, if any. -/
def raiseDoor (d : Fin 4) (fault : Option FaultCode) (s : State) : State :=
  match fault with
  | some c => listFault c (doorNumber d) s
  | none => s

/-- Report a change in whether all four doors are LOCKED, to the running-gear unit and the height unit (R60, R112, R145 step
4). -/
def reportAllLocked (before : Bool) (s : State) : State :=
  if s.allLocked = before then s
  else if s.allLocked then kneelDoors (resolveRear s)
  else resolveRear s

/-- The DOOR-STATE notice (R163). -/
def doorNotice (d : Fin 4) (old : DoorState) (cause : DoorCause) (s : State) : State :=
  sendNotice .doorState
    [doorNumber d, (s.door d).state.code, old.code, cause.code, (s.door d).position.code] s

/-- Steps 2 to 5 of a change of a door's state (R145): the causes that end do so within step 2, before the new fault is raised, and
that of DOOR-OBSTRUCTION before the claim is removed (assumption 59). -/
def moveDoor (d : Fin 4) (new : DoorState) (cause : DoorCause) (fault : Option FaultCode) (s : State) : State :=
  let old := (s.door d).state
  let s1 := raiseDoor d fault (doorLeft d old (s.setDoor d ((s.door d).enter new cause)))
  let s2 := if new = .locked then removeClaim (.door d) (endObstruction d s1) else s1
  doorNotice d old cause (reportAllLocked s.allLocked s2)

/-- A change of a door's state (R145): the claim first when the door leaves LOCKED. -/
def changeDoor (d : Fin 4) (new : DoorState) (cause : DoorCause) (fault : Option FaultCode) (s : State) : State × Bool :=
  if (s.door d).state = .locked then
    let r := addClaim (.door d) s
    (moveDoor d new cause fault r.1, r.2)
  else (moveDoor d new cause fault s, false)

/-! ### RELEASE-WAIT (R150) -/

/-- The gate test of a door in RELEASE-WAIT (R150); no effect in any other state. -/
def gateTest (d : Fin 4) (s : State) : State :=
  if (s.door d).state = .releaseWait ∧ openPermission s ∧ gateOf s d then
    match (s.door d).mode with
    | .cabOpen => moveDoor d .opening .gateMet none s
    | .passenger => moveDoor d .released .gateMet none s
  else s

/-- The gate tests of the four doors in index order (R150: at a report of the hold state). -/
def gateTests (s : State) : State := if s.running then doorIx.foldl (fun x d => gateTest d x) s else s

/-- A LOCKED door enters RELEASE-WAIT, and its gate test is made (R150). -/
def enterWait (d : Fin 4) (cause : DoorCause) (s : State) : State × Bool :=
  let r := changeDoor d .releaseWait cause none s
  (gateTest d r.1, r.2)

/-! ### Requests (R148, R153) -/

/-- The RELEASE-REFUSED notice: request RELEASE 0 or CLOSE 1, door 0 for a malformed mask (R163). -/
def releaseRefused (request : Int) (door : Nat) (reason : ReleaseReason) (s : State) : State :=
  sendNotice .releaseRefused [request, door, reason.code, noticeSpeed s] s

/-- A door mask within 1..15 (R148, R153). -/
def maskOk (mask : Val) : Bool := decide (1 ≤ mask.toInt) && decide (mask.toInt ≤ 15)

/-- The motion allows a release to pend: VALID and at or below the pre-release speed (R148). -/
def mayPend (s : State) : Bool := decide (s.motion.speed ≤ s.param 8 20)

/-- The reason that refuses a release on a moving bus (R148). -/
def moveReason (s : State) : ReleaseReason := if s.motion.status = .valid then .speed else .speedUnknown

/-- A LOCKED door in RUN at a DOOR-RELEASE (R148). -/
def releaseLocked (d : Fin 4) (s : State) : State × Bool :=
  let k := s.door d
  if k.pendingRelease then (s, false)
  else if s.motion.standstill then enterWait d .request (s.setDoor d { k with mode := modeOf s d })
  else if s.motion.status = .valid ∧ mayPend s then (s.setDoor d { k with mode := modeOf s d, pendingRelease := true }, false)
  else (releaseRefused 0 (doorNumber d) (moveReason s) s, false)

/-- One door of the mask of a DOOR-RELEASE (R148). -/
def releaseDoor (d : Fin 4) (s : State) : State × Bool :=
  if s.part ≠ .run then (releaseRefused 0 (doorNumber d) .notRun s, false)
  else if (s.door d).state = .locked then releaseLocked d s
  else (s, false)

/-- The filtered level of the door's line defers a close: LEVEL mode and ACTIVE (R154). -/
def edgeHolds (d : Fin 4) (s : State) : Bool := levelMode s d && s.edges[d].filtered

/-- A close of OPEN (R154). -/
def closeOfOpen (d : Fin 4) (cause : DoorCause) (s : State) : State :=
  let s1 :=
    if reversalLimit s d ≤ ((s.door d).reversals : Int) then
      endObstruction d (s.setDoor d { s.door d with reversals := 0 })
    else s
  if edgeHolds d s1 then s1.setDoor d { s1.door d with closeDeferred := true } else moveDoor d .warning cause none s1

/-- One door of the mask of a DOOR-CLOSE (R153). -/
def closeDoor (d : Fin 4) (s : State) : State :=
  match (s.door d).state with
  | .locked => s.setDoor d { s.door d with pendingRelease := false }
  | .releaseWait => moveDoor d .locked .request none s
  | .released => moveDoor d .locked .request none s
  | .openState => closeOfOpen d .request s
  | .unknown => s
  | .opening => s
  | .warning => s
  | .closing => s
  | .reversing => s
  | .emergency => s
  | .fault => s

/-! ### Position reports (R143, R147, R151, R152, R154 to R156, R158, R159, R161) -/

/-- The door's position in use taken from its usable record (R143). -/
def takePosition (d : Fin 4) (s : State) : State :=
  s.setDoor d { s.door d with position := DoorPos.ofValue (s.value (.doorPosition d)) }

/-- The change a position makes in RUN and STOPPING, after the position is set. -/
def positionMoves (d : Fin 4) (s : State) : State × Bool :=
  let closed := decide ((s.door d).position = .closedLocked)
  match (s.door d).state with
  | .unknown => (moveDoor d (if closed then .locked else .openState) .position none s, false)
  | .locked =>
    if s.motion.standstill ∨ closed then (s, false) else changeDoor d .fault .forced (some .doorMoving) s
  | .opening => (if (s.door d).position = .fullyOpen then moveDoor d .openState .position none s else s, false)
  | .reversing => (if (s.door d).position = .fullyOpen then moveDoor d .openState .position none s else s, false)
  | .openState => (if closed then moveDoor d .locked .position none s else s, false)
  | .closing => (if closed then moveDoor d .locked .position none s else s, false)
  | .fault => (if closed then moveDoor d .locked .position none s else s, false)
  | .releaseWait => (s, false)
  | .released => (s, false)
  | .warning => (s, false)
  | .emergency => (s, false)

/-- A report that makes the position record unusable, in RUN and STOPPING (R159). -/
def positionLost (d : Fin 4) (s : State) : State × Bool :=
  match (s.door d).state with
  | .unknown => (s, false)
  | .emergency => (s, false)
  | .fault => (raiseDoor d (some .doorPositionLost) s, false)
  | .locked => changeDoor d .fault .positionLost (some .doorPositionLost) s
  | .releaseWait => changeDoor d .fault .positionLost (some .doorPositionLost) s
  | .released => changeDoor d .fault .positionLost (some .doorPositionLost) s
  | .opening => changeDoor d .fault .positionLost (some .doorPositionLost) s
  | .openState => changeDoor d .fault .positionLost (some .doorPositionLost) s
  | .warning => changeDoor d .fault .positionLost (some .doorPositionLost) s
  | .closing => changeDoor d .fault .positionLost (some .doorPositionLost) s
  | .reversing => changeDoor d .fault .positionLost (some .doorPositionLost) s

/-- The state that a door follows in CONFIG: from its position record alone (R161). -/
def configDoorState (s : State) (d : Fin 4) : DoorState :=
  if s.usable (.doorPosition d) then
    if DoorPos.ofValue (s.value (.doorPosition d)) = .closedLocked then .locked else .openState
  else .unknown

/-- A door made to follow its position record in CONFIG (R161); no change, no notice, when it stands there already. -/
def followPosition (d : Fin 4) (cause : DoorCause) (s : State) : State :=
  if (s.door d).state = configDoorState s d then s else (changeDoor d (configDoorState s d) cause none s).1

/-- A DOOR-POSITION report (R143). `was` says whether the record was usable before. -/
def positionReport (d : Fin 4) (was : Bool) (s : State) : State × Bool :=
  if s.usable (.doorPosition d) then
    let s1 := takePosition d s
    if s.running then positionMoves d (listEnd .doorPositionLost (doorNumber d) s1) else (followPosition d .position s1, false)
  else if was then
    if s.running then positionLost d s else (followPosition d .position s, false)
  else (s, false)

/-! ### Buttons and handles (R143, R151, R154, R155, R157) -/

/-- A press of a door's button in RUN and STOPPING. -/
def press (d : Fin 4) (s : State) : State :=
  match (s.door d).state with
  | .released => if openPermission s then moveDoor d .opening .button none s else s
  | .openState => s.setDoor d { s.door d with timer := 0 }
  | .warning => if (s.door d).mode = .passenger then moveDoor d .openState .button none s else s
  | .unknown => s
  | .locked => s
  | .releaseWait => s
  | .opening => s
  | .closing => s
  | .reversing => s
  | .emergency => s
  | .fault => s

/-- A DOOR-BUTTON report: the last value follows in every part state, a press acts in RUN and STOPPING (R143). -/
def buttonReport (d : Fin 4) (s : State) : State :=
  if s.usable (.doorButton d) then
    let now := decide (s.value (.doorButton d) ≠ 0)
    let s1 := s.setDoor d { s.door d with lastButton := now }
    if now ∧ (s.door d).lastButton = false ∧ s.running then press d s1 else s1
  else s

/-- The state a returned handle leaves its door in (R155). -/
def returnState (s : State) (d : Fin 4) : DoorState :=
  if s.usable (.doorPosition d) then
    if (s.door d).position = .closedLocked then .locked else .openState
  else if (s.role (.doorPosition d)).status = .never then .unknown
  else .fault

/-- A pull or a return of a door's handle in RUN and STOPPING (R155). -/
def handleMoves (pulled : Bool) (d : Fin 4) (s : State) : State × Bool :=
  if pulled then
    if (s.door d).state = .emergency then (s, false) else changeDoor d .emergency .emergency (some .doorEmergency) s
  else if (s.door d).state = .emergency then changeDoor d (returnState s d) .handleReturn none s
  else (s, false)

/-- A DOOR-EMERGENCY report: the last value follows in every part state, a pull or a return acts in RUN and STOPPING (R143). -/
def handleReport (d : Fin 4) (s : State) : State × Bool :=
  if s.usable (.doorEmergency d) then
    let now := decide (s.value (.doorEmergency d) ≠ 0)
    let s1 := s.setDoor d { s.door d with lastHandle := now }
    if now ≠ (s.door d).lastHandle ∧ s.running then handleMoves now d s1 else (s1, false)
  else (s, false)

/-! ### Edge events (R154, R157, R158, R160) -/

/-- A reversal reaches the limit with this event: DOOR-OBSTRUCTION (R158). -/
def obstructed (s : State) (d : Fin 4) : Option FaultCode :=
  if ((s.door d).reversals : Int) < reversalLimit s d ∧ reversalLimit s d ≤ (((s.door d).reversals + 1 : Nat) : Int) then
    some .doorObstruction
  else none

/-- A reversal of a closing door (R158). -/
def reverse (d : Fin 4) (s : State) : State :=
  moveDoor d .reversing .edge (obstructed s d)
    (s.setDoor d { s.door d with reversals := satSucc 7 (s.door d).reversals })

/-- An edge event at its door; in CONFIG it has no effect (R160, R161). -/
def edgeEvent (d : Fin 4) (s : State) : State :=
  if s.running then
    match (s.door d).state with
    | .openState => s.setDoor d { s.door d with timer := 0 }
    | .warning => moveDoor d .openState .edge none s
    | .closing => reverse d s
    | .unknown => s
    | .locked => s
    | .releaseWait => s
    | .released => s
    | .opening => s
    | .reversing => s
    | .emergency => s
    | .fault => s
  else s

/-- The release of a door's LEVEL line (R154). -/
def lineClear (d : Fin 4) (s : State) : State :=
  if s.running ∧ (s.door d).state = .openState ∧ (s.door d).closeDeferred then moveDoor d .warning .lineClear none s else s

/-! ### Edge lines (R160) -/

/-- A line at a raw level is active: high under ACTIVE-HIGH (0), low under ACTIVE-LOW (1). -/
def lineActive (s : State) (d : Fin 4) (high : Bool) : Bool := if doorParam s d 8 = 0 then high else !high

/-- A filter at a reset or a swap of T7: the present raw level under the polarity in force, the timer stopped (R160). While T7
is EMPTY no polarity is in force, and the filter stands INACTIVE (assumption 9). -/
def settledLine (s : State) (d : Fin 4) : EdgeLine :=
  { high := s.edges[d].high, filtered := s.tableValid 7 && lineActive s d s.edges[d].high, running := false, timer := 0 }

/-- Every filter set as at a reset or a swap of T7 (R160). -/
def settleLines (s : State) : State := s.setEdges (Vector.ofFn (settledLine s))

/-- The state with another record of one edge line. -/
def State.setEdge (s : State) (d : Fin 4) (x : EdgeLine) : State := s.setEdges (s.edges.set d x)

/-- The filter of a watched line at a raw level (R160): apart from the filtered level the timer runs, started from 0 if it did
not run; at the filtered level it is stopped. -/
def watchedLine (s : State) (d : Fin 4) (high : Bool) : EdgeLine :=
  let e := s.edges[d]
  if lineActive s d high = e.filtered then { e with high := high, running := false, timer := 0 }
  else { e with high := high, running := true, timer := if e.running then e.timer else 0 }

/-- A change of a line's raw level (R160). -/
def lineLevel (d : Fin 4) (high : Bool) (s : State) : State :=
  s.setEdge d (if s.tableValid 7 then watchedLine s d high else { s.edges[d] with high := high })

/-- The accepted change of a line's filtered level, and what it raises at the door (R160). -/
def acceptLine (d : Fin 4) (s : State) : State :=
  let now := !s.edges[d].filtered
  let s1 := s.setEdge d { s.edges[d] with filtered := now, running := false, timer := 0 }
  if now then edgeEvent d s1 else if levelMode s d then lineClear d s1 else s1

/-- The filter time of a line has run (R160). -/
def filterExpiry (d : Fin 4) (s : State) : State :=
  if s.tableValid 7 ∧ s.edges[d].running then acceptLine d s else s

/-- One step of 0.1 ms at a line: a running timer counts, and at the filter time the change is accepted (R160). -/
def filterTick (d : Fin 4) (s : State) : State :=
  if s.tableValid 7 ∧ s.edges[d].running then
    let t := s.edges[d].timer + 1
    if doorParam s d 10 ≤ (t : Int) then acceptLine d s else s.setEdge d { s.edges[d] with timer := t }
  else s

/-- The four filters' step, in index order. -/
def filterTicks (s : State) : State := doorIx.foldl (fun x d => filterTick d x) s

/-! ### Motion (R149, R150, R156) -/

/-- A pending release cancelled by the motion (R149). -/
def cancelPending (d : Fin 4) (s : State) : State :=
  releaseRefused 0 (doorNumber d) .cancelled (s.setDoor d { s.door d with pendingRelease := false })

/-- The speed cancels a pending release: LOST, or VALID above the pre-release speed and hysteresis (R149). -/
def cancels (s : State) : Bool :=
  decide (s.motion.status = .lost) || decide (s.param 8 20 + s.param 8 21 < s.motion.speed)

/-- A LOCKED door at a change of the motion state: forced opening at the clearing of standstill (R156), then the pending release
(R149), taken up at the setting of standstill. A change that forces the door sends no CANCELLED, whatever the speed (assumption
72). -/
def lockedMotion (cleared set : Bool) (d : Fin 4) (s : State) : State × Bool :=
  if cleared ∧ (s.door d).position ≠ .closedLocked then changeDoor d .fault .forced (some .doorMoving) s
  else if (s.door d).pendingRelease = false then (s, false)
  else if set then enterWait d .standstill s
  else if cancels s then (cancelPending d s, false)
  else (s, false)

/-- A door at a change of the motion state (R144). -/
def doorMotion (cleared set : Bool) (d : Fin 4) (s : State) : State × Bool :=
  if (s.door d).state = .locked then lockedMotion cleared set d s else (gateTest d s, false)

/-! ### Cycle start (R150, R152, R154, R157, R158) -/

/-- The state with a door's timer raised by 1. -/
def countDoor (d : Fin 4) (s : State) : State := s.setDoor d { s.door d with timer := (s.door d).timer + 1 }

/-- An OPENING or REVERSING door at a cycle start (R152). -/
def openingCycle (d : Fin 4) (s : State) : State :=
  if openPermission s then
    let s1 := countDoor d s
    if doorParam s d 3 < ((s1.door d).timer : Int) then moveDoor d .fault .timeout (some .doorTimeout) s1 else s1
  else s

/-- An OPEN door at a cycle start (R154). -/
def openCycle (d : Fin 4) (s : State) : State :=
  if doorParam s d 6 ≠ 0 ∧ ((s.door d).reversals : Int) < reversalLimit s d ∧ (s.door d).closeDeferred = false then
    let s1 := countDoor d s
    if doorParam s d 6 ≤ ((s1.door d).timer : Int) then closeOfOpen d .dwell s1 else s1
  else s

/-- A WARNING door at a cycle start (R157). -/
def warningCycle (d : Fin 4) (s : State) : State :=
  let s1 := countDoor d s
  if doorParam s d 5 ≤ ((s1.door d).timer : Int) then moveDoor d .closing .warningEnd none s1 else s1

/-- A CLOSING door at a cycle start (R158). -/
def closingCycle (d : Fin 4) (s : State) : State :=
  let s1 := countDoor d s
  if doorParam s d 4 < ((s1.door d).timer : Int) then moveDoor d .fault .timeout (some .doorTimeout) s1 else s1

/-- A door at a cycle start (R144). -/
def doorCycle (d : Fin 4) (s : State) : State :=
  match (s.door d).state with
  | .opening => openingCycle d s
  | .reversing => openingCycle d s
  | .openState => openCycle d s
  | .warning => warningCycle d s
  | .closing => closingCycle d s
  | .releaseWait => gateTest d s
  | .unknown => s
  | .locked => s
  | .released => s
  | .emergency => s
  | .fault => s

/-- The doors' cycle-start work, in index order (R144). -/
def doorsCycle (s : State) : State := if s.running then doorIx.foldl (fun x d => doorCycle d x) s else s

/-! ### START, CONFIG and swap of T7 (R161, R162) -/

/-- A door at the entry into CONFIG (R161): its state with DOOR-STATE, its flags, then the causes that end there (assumption 60). -/
def doorConfig (d : Fin 4) (s : State) : State :=
  let s1 := followPosition d .stop s
  let s2 := s1.setDoor d
    { s1.door d with pendingRelease := false, closeDeferred := false, timer := 0, reversals := 0, tone := false }
  [FaultCode.doorTimeout, .doorObstruction, .doorEmergency, .doorPositionLost, .doorMoving].foldl
    (fun x c => listEnd c (doorNumber d) x) s2

/-- The doors at the entry into CONFIG. -/
def doorsConfig (s : State) : State := doorIx.foldl (fun x d => doorConfig d x) s

/-- A door without its position at START (R162 step 2). -/
def doorStartLost (d : Fin 4) (s : State) : State :=
  match (s.door d).state with
  | .locked => (changeDoor d .fault .start (some .doorPositionLost) s).1
  | .openState => (changeDoor d .fault .start (some .doorPositionLost) s).1
  | .unknown => raiseDoor d (some .doorPositionLost) s
  | .releaseWait => raiseDoor d (some .doorPositionLost) s
  | .released => raiseDoor d (some .doorPositionLost) s
  | .opening => raiseDoor d (some .doorPositionLost) s
  | .warning => raiseDoor d (some .doorPositionLost) s
  | .closing => raiseDoor d (some .doorPositionLost) s
  | .reversing => raiseDoor d (some .doorPositionLost) s
  | .emergency => raiseDoor d (some .doorPositionLost) s
  | .fault => raiseDoor d (some .doorPositionLost) s

/-- A door at START (R162). The hold record is PENDING then, so no claim confirms it. -/
def doorStart (d : Fin 4) (s : State) : State :=
  let s1 := s.setDoor d { s.door d with timer := 0, pendingRelease := false, closeDeferred := false }
  let s2 := if s1.usable (.doorPosition d) then s1 else doorStartLost d s1
  if s2.usable (.doorEmergency d) ∧ s2.value (.doorEmergency d) ≠ 0 then
    (changeDoor d .emergency .start (some .doorEmergency) s2).1
  else s2

/-- The doors at START, in index order. -/
def doorsStart (s : State) : State := doorIx.foldl (fun x d => doorStart d x) s

/-- The reversal limit of a door in the bank that a swap of T7 has just put aside. -/
def formerLimit (s : State) (d : Fin 4) : Int := ((s.tab 7).shadow.getD (11 * d.val + 7) 0#16).toInt

/-- The reversal count against the limit of a new T7: a limit lowered to the count raises DOOR-OBSTRUCTION, a limit raised above
it ends the cause (R158, R162). -/
def recheckObstruction (d : Fin 4) (s : State) : State :=
  if reversalLimit s d ≤ ((s.door d).reversals : Int) then
    if ((s.door d).reversals : Int) < formerLimit s d then listFault .doorObstruction (doorNumber d) s else s
  else endObstruction d s

/-- A deferred close at a swap of T7: the setting of the filter stands for the release of the line (R162). -/
def recheckDeferred (d : Fin 4) (s : State) : State :=
  if (s.door d).state = .openState ∧ (s.door d).closeDeferred ∧ edgeHolds d s = false then
    moveDoor d .warning .lineClear none s
  else s

/-- A door at a swap of T7 in RUN or STOPPING, after the filters are set (R162): the reversal limit, the gate test, the deferred close.
The order is the model's (assumption 66). -/
def doorSwap (d : Fin 4) (s : State) : State := recheckDeferred d (gateTest d (recheckObstruction d s))

/-- The doors at a swap of T7: the filters, then in RUN and STOPPING the records (R160, R162). -/
def doorsSwap (s : State) : State :=
  let s1 := settleLines s
  if s.running then doorIx.foldl (fun x d => doorSwap d x) s1 else s1

end Sys2Proof.Machine
end

