-- ==== Sys2Proof/Machine/Parts.lean ====
section
/-! DEFINITION. The part states and what goes through every block: the report of a CONFIRMED hold, the entry into CONFIG, swaps,
the motion state and its reports, START and STOP (3.2, 10.4, 10.7). -/

namespace Sys2Proof.Machine

/-! ### Notices of the management unit -/

/-- The PART-STATE notice (R188). -/
def partNotice (old : PartState) (cause : PartCause) (s : State) : State :=
  sendNotice .partState [s.part.code, old.code, cause.code] s

/-- The mask of the tables that meet a test (R190). -/
def tableMask (f : Fin 9 → Bool) : Int := maskOf (tableIx.map f)

/-- The SWAP-DONE notice (R183). -/
def swapNotice (mask : Int) (s : State) : State := sendNotice .swapDone [mask, s.part.code] s

/-! ### Exchanging banks (R183) -/

/-- A table's two banks exchanged (R183). -/
def Table.exchange (t : Table) : Table :=
  { valid := true, active := t.shadow, shadowState := if t.valid then .complete else .empty, shadow := t.active
    errorIndex := 0, pendingSwap := false }

/-- Some table's swap is pending. -/
def anyPending (s : State) : Bool := tableIx.any (fun t => (s.tab t).pendingSwap)

/-- The mask of the pending tables. -/
def pendingMask (s : State) : Int := tableMask (fun t => (s.tab t).pendingSwap)

/-- Every pending table's banks exchanged in one event (R183). -/
def exchangeAll (s : State) : State := s.setTables (s.tables.map fun t => if t.pendingSwap then t.exchange else t)

/-! ### The motion state (R44, R46, R47) -/

/-- The values of the usable WHEEL-SPEED records (R32, R44). -/
def wheelSpeeds (s : State) : List Int :=
  s.sigDefs.zipIdx.filterMap (fun (d, i) =>
    if d.role = Role.wheelSpeed.code ∧ (s.sigAt i).status.usable then some (s.sigAt i).value else none)

/-- The greatest of the values, at least 0. -/
def greatest (l : List Int) : Int := l.foldl max 0

/-- The standstill flag and timer against a new speed that is VALID (R47). -/
def standstillAfter (s : State) (v : Int) : Bool × Nat :=
  if s.param 8 17 + s.param 8 18 < v then (false, 0)
  else if s.param 8 17 < v ∧ s.motion.standstill = false then (false, 0)
  else (s.motion.standstill, s.motion.timer)

/-- The motion state after a recomputation of the speed (R44, R47). -/
def motionAfter (s : State) : Motion :=
  let l := wheelSpeeds s
  if 2 ≤ l.length then
    let v := clamp 0 15000 (greatest l)
    { speed := v, status := .valid, standstill := (standstillAfter s v).1, timer := (standstillAfter s v).2 }
  else { speed := 0, status := .lost, standstill := false, timer := 0 }

/-- A change of the motion state for its readers: speed, status or standstill flag (R45). -/
def motionChanged (old new : Motion) : Bool :=
  decide (old.speed ≠ new.speed) || decide (old.status ≠ new.status) || decide (old.standstill ≠ new.standstill)

/-- The cause of SPEED-LOST begins or ends with the speed status, in RUN and STOPPING (R48). -/
def speedFault (old : SpeedStatus) (s : State) : State :=
  if s.running = false ∨ s.motion.status = old then s
  else if s.motion.status = .lost then raiseFault .speedLost 0 s
  else endCause .speedLost 0 s

/-! ### CONFIG (R187) -/

/-- The running-gear unit at the entry into CONFIG (R48, R49, R64): the end of SPEED-LOST, the rear-steer record with the causes that
end there, then the joint record (assumption 54). -/
def gearConfig (s : State) : State := jointConfig (rearConfig (endCause .speedLost 0 s))

/-- The height unit at the entry into CONFIG (R80, R103): kneel, air, corners (assumption 47). -/
def heightConfig (s : State) : State := cornersConfig (airConfig (kneelConfig s))

/-- A door's position record that a swap of T1 made NEVER, in CONFIG (R33, R161). -/
def doorForgotten (before : State) (d : Fin 4) (s : State) : State :=
  if before.usable (.doorPosition d) then followPosition d .position s else s

/-- The signal store and the running-gear unit at a swap of T1, which is taken in CONFIG: every record at its reset value, the
speed recomputed, the doors told of the records they lost (R33, R44, R161). The other readers keep their CONFIG values. -/
def signalsSwap (before s : State) : State :=
  let s1 := s.setSignals (Vector.replicate 96 SigRec.reset)
  doorIx.foldl (fun x d => doorForgotten before d x) (s1.setMotion (motionAfter s1))

/-- The swaps pending at the entry into CONFIG, or named by a SWAP taken there (R182, R183). -/
def swapsConfig (s : State) : State :=
  if anyPending s then
    let s1 := exchangeAll s
    let s2 := if (s.tab 1).pendingSwap then signalsSwap s s1 else s1
    let s3 := if (s.tab 7).pendingSwap then settleLines s2 else s2
    swapNotice (pendingMask s) s3
  else s

/-- The claims at the entry into CONFIG: MAINT removed, STARTUP added (R120). -/
def claimsConfig (s : State) : State := (addClaim .startup (removeClaim .maint s)).1

/-- The entry into CONFIG at the end of STOPPING, the blocks in the order in which R187 names them (assumption 61), and then the
pending swaps (R183, R187). -/
def configEntry (s : State) : State :=
  let s1 := claimsConfig (s.setPart .config)
  let s2 := doorsConfig (brakeConfig (heightConfig (gearConfig s1)))
  swapsConfig (partNotice s.part .holdConfirmed s2)

/-! ### The report of a CONFIRMED hold (R123) -/

/-- The report that the hold has become CONFIRMED: to the door unit, to the height unit, to the management unit (R123). -/
def reportConfirmed (s : State) : State :=
  let s1 := gateTests s
  let s2 := if s1.running then kneelConfirmed s1 else s1
  if s2.part = .stopping then configEntry s2 else s2

/-- Deliver the report when an operation says that the hold became CONFIRMED. -/
def deliver (r : State × Bool) : State := if r.2 then reportConfirmed r.1 else r.1

/-! ### Swaps in RUN and STOPPING (R183) -/

/-- The rear-steer record at a swap of T3 (R52). -/
def swapSteering (t : Bool) (s : State) : State := if t then retarget s else s

/-- The joint record at a swap of T4 (R79). -/
def swapJoint (t : Bool) (s : State) : State := if t then jointEvent s else s

/-- The height unit at a swap of T5, and the report of the axle loads (R102, R118, R82). -/
def swapHeight (t : Bool) (s : State) : State :=
  if t then reportLoads s.loads (kneelCompletion (cornersSwap (evalAir s))) else s

/-- The brake resolver at a swap of T6 (R141). -/
def swapBrake (t : Bool) (s : State) : State := if t then deliver (brakeSwap s) else s

/-- The door unit at a swap of T7 (R162). -/
def swapDoors (t : Bool) (s : State) : State := if t then doorsSwap s else s

/-- Take the pending swaps in RUN or STOPPING: all banks exchanged, the readers in the order of the tables' numbers (assumption 67),
SWAP-DONE (R183). -/
def swapsRun (s : State) : State :=
  if s.running ∧ anyPending s then
    let p := fun t => (s.tab t).pendingSwap
    swapNotice (pendingMask s)
      (swapDoors (p 7) (swapBrake (p 6) (swapHeight (p 5) (swapJoint (p 4) (swapSteering (p 3) (exchangeAll s))))))
  else s

/-! ### Reports of the motion state (R45) -/

/-- The doors at a change of the motion state, in index order; each door's report of CONFIRMED is delivered before the next
door is worked (R144). -/
def doorsMotion (cleared set : Bool) (s : State) : State :=
  doorIx.foldl (fun x d => if x.running then deliver (doorMotion cleared set d x) else x) s

/-- Report a change of the motion state to its readers, in the order of the table of R45, and then SPEED-LOST (R48). -/
def motionReport (old : Motion) (s : State) : State :=
  if motionChanged old s.motion then
    let cleared := old.standstill && !s.motion.standstill
    let set := !old.standstill && s.motion.standstill
    let s1 := cornersMotion cleared (jointEvent (rearMotion s))
    let s2 := if cleared ∧ s1.running then kneelMoving s1 else s1
    let s3 := if set then deliver (holdOnStandstill s2) else s2
    let s4 := doorsMotion cleared set s3
    speedFault old.status (if set then swapsRun s4 else s4)
  else s

/-- Recompute the speed, and report the change it makes (R44, R45, R47). -/
def recomputeSpeed (s : State) : State := motionReport s.motion (s.setMotion (motionAfter s))

/-- The standstill timer at a cycle start (R46). -/
def standstillCycle (s : State) : State :=
  if s.motion.standstill then s
  else if s.tableValid 8 ∧ s.motion.status = .valid ∧ s.motion.speed ≤ s.param 8 17 then
    if s.param 8 19 ≤ ((s.motion.timer + 1 : Nat) : Int) then
      motionReport s.motion (s.setMotion { s.motion with timer := s.motion.timer + 1, standstill := true })
    else s.setMotion { s.motion with timer := s.motion.timer + 1 }
  else s.setMotion { s.motion with timer := 0 }

/-! ### START and STOP (R186, R187) -/

/-- Raise a fault of START where its record is unusable. -/
def raiseIfLost (r : Role) (c : FaultCode) (s : State) : State := if s.usable r then s else raiseFault c 0 s

/-- The running-gear unit at START (R48, R50, R51, R70, R77). JOINT-ANGLE-LOST comes last of the input faults, after the joint
record's own work (assumption 46). -/
def gearStart (s : State) : State :=
  let s1 := if s.motion.status = .lost then raiseFault .speedLost 0 s else s
  raiseIfLost .jointAngle .jointAngleLost
    (jointStart (raiseIfLost .rearActual .rearActualLost (raiseIfLost .frontAngle .frontAngleLost (rearStart s1))))

/-- The height unit at START (R81, R103). -/
def heightStart (s : State) : State := kneelStart (cornersStart (airStart s))

/-- The brake resolver at START (R122, R135): the hold in APPLYING with the confirm test, D, DEMAND-LOST, backup flag,
resolution. That the hold record comes before the axle record is the model's order (assumption 64). -/
def brakeStart (s : State) : State × Bool :=
  let r := applyHold .start s
  let s1 := r.1.setAxle { r.1.axle with decel := driverDecel r.1 }
  (resolveAxles (evalBackup (raiseIfLost .driverDecel .demandLost s1)), r.2)

/-- START accepted (R186). -/
def startPart (s : State) : State :=
  let s1 := deliver (brakeStart (heightStart (gearStart (doorsStart (s.setPart .run)))))
  partNotice s.part .start s1

/-- STOP accepted (R187): the MAINT claim, STOPPING, and CONFIG at once when the hold then stands CONFIRMED. A hold that the claim
itself confirms is reported after PART-STATE (assumption 17). -/
def stopPart (s : State) : State :=
  let r := addClaim .maint s
  let s1 := partNotice s.part .stop (r.1.setPart .stopping)
  if r.2 then reportConfirmed s1 else if s1.hold.state = .confirmed then configEntry s1 else s1

end Sys2Proof.Machine
end

