-- ==== Sys2Proof/Machine/Signals.lean ====
section
/-! DEFINITION. The signal store: taking samples (R35 to R38), ageing (R40), notices (R42) and the reports to the readers (R39). -/

namespace Sys2Proof.Machine

/-! ### Taking a sample (R35 to R38) -/

/-- What a frame does to one record: unmatched, counted alone, or accepted. -/
inductive SampleOutcome where
  | untouched
  | counted (r : SigRec)
  | accepted (r : SigRec)
deriving DecidableEq, Repr

/-- A definition names the frame's source and tag (2.6). -/
def SigDef.matchesFrame (d : SigDef) (f : Frame) : Bool := d.source == (f.src.toNat : Int) && d.tag == (f.tag.toNat : Int)

/-- The raw value scaled: gain, offset (R38 steps 1 and 2). -/
def SigDef.scaled (d : SigDef) (raw : Int) : Int := divNear (raw * d.gain) 256 + d.offset

/-- The record after an accepted sample (R38). -/
def SigRec.accept (d : SigDef) (raw : Int) (r : SigRec) : SigRec :=
  let x := d.scaled raw
  { r with value := Machine.clamp d.lower d.upper x, lastRaw := raw, age := 0, status := .fresh
           clamp := decide (Machine.clamp d.lower d.upper x ≠ x) }

/-- The record after the skip count of R36. -/
def SigRec.countSkip (seq : BitVec 4) (r : SigRec) : SigRec :=
  if r.status = .never ∨ seq = r.lastSeq + 1 then r else { r with skips := satSucc 65535 r.skips }

/-- A value that reaches R37: the sequence taken, not available, or accepted. -/
def SigRec.takeRaw (d : SigDef) (seq : BitVec 4) (v : Val) (r : SigRec) : SampleOutcome :=
  if v = notAvailable then .counted { r with lastSeq := seq, notAvail := satSucc 65535 r.notAvail }
  else .accepted (({ r with lastSeq := seq } : SigRec).accept d v.toInt)

/-- One matching definition's record and a frame (R35 to R38). -/
def sampleOutcome (d : SigDef) (f : Frame) (r : SigRec) : SampleOutcome :=
  if d.matchesFrame f then
    match f.values[d.position.toNat]? with
    | none => .counted { r with shorts := satSucc 65535 r.shorts }
    | some v =>
      if r.status ≠ .never ∧ f.seq = r.lastSeq then .counted { r with duplicates := satSucc 65535 r.duplicates }
      else (r.countSkip f.seq).takeRaw d f.seq v
  else .untouched

/-- The record after a frame. -/
def SampleOutcome.record (r : SigRec) : SampleOutcome → SigRec
  | .untouched => r
  | .counted x => x
  | .accepted x => x

/-- The frame's sample was accepted. -/
def SampleOutcome.isAccepted : SampleOutcome → Bool
  | .untouched => false | .counted _ => false | .accepted _ => true

/-! ### Ageing (R40) -/

/-- A FRESH record past its freshness limit (R40 test 1). -/
def SigRec.stale (d : SigDef) (r : SigRec) : SigRec :=
  if r.status = .fresh ∧ d.freshness < (r.age : Int) then
    match StalePolicy.ofCode d.policy with
    | some .substitute => { r with status := .substituted, value := d.default, clamp := false }
    | some .lose => { r with status := .lost }
    | some .hold => { r with status := .held }
    | none => { r with status := .held }
  else r

/-- A HELD record past its hold limit (R40 test 2). -/
def SigRec.holdOver (d : SigDef) (r : SigRec) : SigRec :=
  if r.status = .held ∧ d.freshness + d.holdLimit < (r.age : Int) then { r with status := .lost } else r

/-- A record's ageing at a cycle start (R40). -/
def SigRec.aged (d : SigDef) (r : SigRec) : SigRec :=
  if r.status = .never then r else (({ r with age := satSucc 255 r.age } : SigRec).stale d).holdOver d

/-! ### Reports (R39) -/

/-- A report of one role: whether a sample was accepted, and whether the record was usable before. -/
structure SigReport where
  role : Role
  accepted : Bool
  was : Bool
deriving DecidableEq, Repr

/-- What the store did to one record: its index, its role, its state before and after, and whether a sample was accepted. -/
structure SigChange where
  index : Nat
  role : Role
  before : SigRec
  after : SigRec
  accepted : Bool
deriving DecidableEq, Repr

/-- The role of a definition; every role of an accepted T1 is one of the list (R31). -/
def SigDef.roleOf (d : SigDef) : Role := (Role.ofCode d.role).getD .none

/-- A change is reported: a sample accepted or the status changed (R39). -/
def SigChange.reported (c : SigChange) : Bool := c.accepted || decide (c.before.status ≠ c.after.status)

/-- The reports of a batch of changes, those of role NONE left out (R32). -/
def reportsOf (l : List SigChange) : List SigReport :=
  (l.filter (fun c => c.reported && decide (c.role ≠ .none))).map
    (fun c => { role := c.role, accepted := c.accepted, was := c.before.status.usable })

/-- The report of a role in a batch. -/
def reportFor (r : Role) (l : List SigReport) : Option SigReport := l.find? (fun x => decide (x.role = r))

/-- A role is reported in a batch. -/
def hasReport (r : Role) (l : List SigReport) : Bool := l.any (fun x => decide (x.role = r))

/-- A fault of a lost role: raised when the record becomes unusable, its cause ended when it is usable (R51, R70). -/
def roleFault (r : Role) (c : FaultCode) (l : List SigReport) (s : State) : State :=
  match reportFor r l with
  | some x =>
    if s.running = false then s
    else if s.usable r then endCause c 0 s
    else if x.was then raiseFault c 0 s
    else s
  | none => s

/-- The motion state at a batch: one recomputation (R44). -/
def speedReports (l : List SigReport) (s : State) : State := if hasReport .wheelSpeed l then recomputeSpeed s else s

/-- The rear-steer record at a batch: the target once for both angles, the state also for REAR-ACTUAL (R52, R58). -/
def rearReports (l : List SigReport) (s : State) : State :=
  if hasReport .frontAngle l || hasReport .jointAngle l then rearInputs s
  else if hasReport .rearActual l then resolveRear s
  else s

/-- The joint record at a batch (R65). -/
def jointReports (l : List SigReport) (s : State) : State :=
  match reportFor .jointAngle l with
  | some x => jointReport x.accepted s
  | none => s

/-- The faults of the three steering inputs (R51, R70): FRONT-ANGLE, JOINT-ANGLE, REAR-ACTUAL (assumption 46). -/
def gearFaults (l : List SigReport) (s : State) : State :=
  roleFault .rearActual .rearActualLost l (roleFault .jointAngle .jointAngleLost l (roleFault .frontAngle .frontAngleLost l s))

/-- One corner's HEIGHT report in a batch. -/
def heightReportIn (l : List SigReport) (c : Fin 6) (s : State) : State :=
  match reportFor (.height c) l with
  | some x => heightReport c x.accepted x.was s
  | none => s

/-- One corner's BELLOWS report in a batch. -/
def bellowsReportIn (l : List SigReport) (c : Fin 6) (s : State) : State :=
  match reportFor (.bellows c) l with
  | some x => bellowsReport c x.was s
  | none => s

/-- A kneel corner's HEIGHT is reported in a batch (R104). -/
def kneelHeightReported (l : List SigReport) (s : State) : Bool :=
  cornerIx.any (fun c => s.kneelCorner c && hasReport (.height c) l)

/-- A batch holds a report of R82 at whose end the arbiter runs: RESERVOIR, HEIGHT-c, BELLOWS-c or FRONT-ANGLE. -/
def cornersReported (l : List SigReport) : Bool :=
  hasReport .reservoir l || hasReport .frontAngle l
    || cornerIx.any (fun c => hasReport (.height c) l || hasReport (.bellows c) l)

/-- The height unit at a batch: reservoir, heights, bellows, suspension, the arbiter once; then the kneel record (R82, R104), and
the report of the axle loads (R82, R100). The reports of one frame are one event (assumption 56). A RESERVOIR report makes no
suspension test (R91: assumption 62). -/
def heightReports (l : List SigReport) (s : State) : State :=
  if s.running then
    let s1 := if hasReport .reservoir l then airReport s else s
    let s2 := cornerIx.foldl (fun x c => bellowsReportIn l c x) (cornerIx.foldl (fun x c => heightReportIn l c x) s1)
    let s3 := if cornersReported l then arbitrate (if hasReport .frontAngle l then suspendAll s2 else s2) else s2
    let s4 := if kneelHeightReported l s3 then kneelCompletion s3 else s3
    let s5 := reportLoads s.loads s4
    if hasReport .driveRequest l then kneelDrive s5 else s5
  else s

/-- The resolver at a DRIVER-DECEL report (R136, R139): D, backup flag, resolution, then DEMAND-LOST. -/
def decelReport (was : Bool) (s : State) : State :=
  if s.running then
    let s1 := resolveAxles (evalBackup (s.setAxle { s.axle with decel := driverDecel s }))
    if s1.usable .driverDecel then endCause .demandLost 0 s1
    else if was then raiseFault .demandLost 0 s1
    else s1
  else s

/-- A BRAKE-ACTUAL of a hold-mask axle is reported in a batch (R123). -/
def actualReported (l : List SigReport) (s : State) : Bool :=
  axleIx.any (fun a => s.member 6 15 a.val && hasReport (.brakeActual a) l)

/-- The brake resolver at a batch (R123, R136): BRAKE-ACTUAL, DRIVER-DECEL, DRIVE-REQUEST (assumption 15). -/
def brakeReports (l : List SigReport) (s : State) : State :=
  let s1 := if actualReported l s then deliver (holdOnActual s) else s
  let s2 := match reportFor .driverDecel l with
    | some x => decelReport x.was s1
    | none => s1
  if hasReport .driveRequest l then deliver (holdOnDrive s2) else s2

/-- One door's reports in a batch: position, button, handle (R143). -/
def doorReports (l : List SigReport) (d : Fin 4) (s : State) : State :=
  let s1 := match reportFor (.doorPosition d) l with
    | some x => deliver (positionReport d x.was s)
    | none => s
  let s2 := if hasReport (.doorButton d) l then buttonReport d s1 else s1
  if hasReport (.doorEmergency d) l then deliver (handleReport d s2) else s2

/-- Deliver a batch of reports to the readers (R39): running-gear unit, height unit, brake resolver, door unit (assumption
15). -/
def deliverReports (l : List SigReport) (s : State) : State :=
  doorIx.foldl (fun x d => doorReports l d x)
    (brakeReports l (heightReports l (gearFaults l (jointReports l (rearReports l (speedReports l s))))))

/-! ### A batch of changes -/

/-- SIGNAL-BACK or SIGNAL-LOST of one change (R42). -/
def signalNotice (c : SigChange) (s : State) : State :=
  if c.role = .none then s
  else if c.before.status = .lost ∧ c.after.status = .fresh then sendNotice .signalBack [c.index, c.role.code] s
  else if c.before.status ≠ .lost ∧ c.after.status = .lost then sendNotice .signalLost [c.index, c.role.code] s
  else s

/-- The signal records with a batch of changes made. -/
def storeChanges (l : List SigChange) (s : State) : State :=
  s.setSignals (l.foldl (fun v c => if h : c.index < 96 then v.set c.index c.after else v) s.signals)

/-- Make a batch of changes: the records, the notices in index order, the reports (R39, R42). -/
def applyChanges (l : List SigChange) (s : State) : State :=
  deliverReports (reportsOf l) (l.foldl (fun x c => signalNotice c x) (storeChanges l s))

/-- The change a frame makes to the record of definition i. -/
def frameChange (f : Frame) (s : State) (d : SigDef) (i : Nat) : SigChange :=
  let o := sampleOutcome d f (s.sigAt i)
  { index := i, role := d.roleOf, before := s.sigAt i, after := o.record (s.sigAt i), accepted := o.isAccepted }

/-- A SAMPLE frame at the signal store (R35 to R39). -/
def takeSample (f : Frame) (s : State) : State := applyChanges (s.sigDefs.zipIdx.map (fun (d, i) => frameChange f s d i)) s

/-- The change ageing makes to the record of definition i. -/
def ageChange (s : State) (d : SigDef) (i : Nat) : SigChange :=
  { index := i, role := d.roleOf, before := s.sigAt i, after := (s.sigAt i).aged d, accepted := false }

/-- Age every record (R40). The changes of one cycle start are one batch (assumption 52). -/
def signalsCycle (s : State) : State := applyChanges (s.sigDefs.zipIdx.map (fun (d, i) => ageChange s d i)) s

/-- Age the record of one definition when a test of its change holds; else nothing changes. -/
def ageOne (i : Nat) (test : SigChange → Bool) (s : State) : State :=
  match s.sigDefs[i]? with
  | some d => if test (ageChange s d i) then applyChanges [ageChange s d i] s else s
  | none => s

end Sys2Proof.Machine
end

