-- ==== Sys2Proof/Machine/Operands.lean ====
section
/-! DEFINITION. The arguments of the fourteen management requests, as test 3 of R177 judges them against the layouts of 11.5.
Each reading answers none where the test fails. -/

namespace Sys2Proof.Machine

/-- A value within a range of plain numbers; the not-available value is in no such range. -/
def argIn (lo hi : Int) (v : Val) : Option Nat := if lo ≤ v.toInt ∧ v.toInt ≤ hi then some v.toInt.toNat else none

/-- A table index, 0..8. -/
def argTable (v : Val) : Option (Fin 9) :=
  match argIn 0 8 v with
  | some n => if h : n < 9 then some ⟨n, h⟩ else none
  | none => none

/-- LOAD-BEGIN: the table (R179). -/
def argsLoadBegin (args : List Val) : Option (Fin 9) :=
  match args with
  | [t] => argTable t
  | _ => none

/-- LOAD-DATA: 1..6 patterns, every pattern right (R177, R180). -/
def argsLoadData (args : List Val) : Option (List Val) := if 1 ≤ args.length ∧ args.length ≤ 6 then some args else none

/-- LOAD-END: the value count, a plain number from 0, and the sum, any pattern (R177, R181). -/
def argsLoadEnd (args : List Val) : Option (Nat × Val) :=
  match args with
  | [n, sum] => (argIn 0 32767 n).map (fun k => (k, sum))
  | _ => none

/-- SWAP: the table mask, 1..511 (11.5). -/
def argsSwap (args : List Val) : Option Val :=
  match args with
  | [m] => (argIn 1 511 m).map (fun _ => m)
  | _ => none

/-- A bank: ACTIVE 0, SHADOW 1 (11.2). -/
def argBank (v : Val) : Option Bank :=
  match argIn 0 1 v with
  | some 0 => some .active
  | some _ => some .shadow
  | none => none

/-- SELECT: the table and the bank (R184). -/
def argsSelect (args : List Val) : Option (Fin 9 × Bank) :=
  match args with
  | [t, b] =>
    match argTable t, argBank b with
    | some x, some y => some (x, y)
    | _, _ => none
  | _ => none

/-- READ: the offset, a plain number from 0, and the count, 1..6 (R184). -/
def argsRead (args : List Val) : Option (Nat × Nat) :=
  match args with
  | [o, n] =>
    match argIn 0 32767 o, argIn 1 6 n with
    | some x, some y => some (x, y)
    | _, _ => none
  | _ => none

/-- QUERY: record kind, index and part; what each may be is the record's (R185). None is the not-available value. -/
def argsQuery (args : List Val) : Option (Int × Int × Int) :=
  match args with
  | [k, i, p] => if k = notAvailable ∨ i = notAvailable ∨ p = notAvailable then none else some (k.toInt, i.toInt, p.toInt)
  | _ => none

/-- START, STOP, HOLD-ADD, HOLD-REMOVE, CLEAR-FAULTS, CLEAR-COUNTERS: one value, 0 (11.5). -/
def argsZero (args : List Val) : Option Unit :=
  match args with
  | [v] => if v = 0#16 then some () else none
  | _ => none

/-- RESET: SOFT 1 or HARD 2 (11.5). -/
def argsReset (args : List Val) : Option ResetKind :=
  match args with
  | [v] => if v = 1#16 then some .soft else if v = 2#16 then some .hard else none
  | _ => none

end Sys2Proof.Machine
end

