-- ==== Sys2Proof/Machine/Reset.lean ====
section
/-! DEFINITION. The three resets: power-on, hard and soft (R8, R17, R18, R178, R188, R189). A reset takes no time of its own
(assumption 11). -/

namespace Sys2Proof.Machine

/-- A table through a soft reset (R178). -/
def Table.soft (t : Table) : Table :=
  if t.shadowState = .loading then { t with shadowState := .empty, shadow := [], errorIndex := 0, pendingSwap := false }
  else { t with pendingSwap := false }

/-- The trim of the active T8, 0 while it is EMPTY (R9). -/
def trimNow (s : State) : Int := if s.tableValid 8 then s.param 8 1 else 0

/-- Every record at its reset value, with a station code and tables; the straps and the edge pins are outside the part, and the
queue of commands and the count of free values are the model's own. -/
def resetRecords (station : BitVec 6) (tables : Vector Table 9) (s : State) : State :=
  let s1 := { State.reset with
    pending := s.pending, free := s.free, straps := s.straps, station := station, tables := tables
    vehicle := PortState.reset, seq := SeqCounters.zero, edges := s.edges }
  settleLines ((s1.setTrim (trimNow s1)).setLoads (Vector.ofFn fun a => { load := fallbackLoad s1 a, status := .fallback }))

/-- The PART-STATE notice of a reset: no old state (R188). -/
def resetPartNotice (cause : PartCause) (s : State) : State :=
  sendNotice .partState [PartState.config.code, -32768, cause.code] s

/-- The straps read 0 or 63 (R18). -/
def badStraps (straps : BitVec 6) : Bool := straps == 0#6 || straps == 63#6

/-- STRAP and PART-STATE of one reset, in an order the manual leaves open (R188, assumption 2). -/
def strapAndPart (cause : PartCause) (s : State) : State :=
  if Config.strapNoticeFirst s.free then resetPartNotice cause (raiseFault .strap 0 (s.setFree (s.free + 1)))
  else raiseFault .strap 0 (resetPartNotice cause (s.setFree (s.free + 1)))

/-- A power-on or hard reset: the straps read, every table EMPTY, STRAP when the straps are bad (R18, R178). -/
def coldReset (cause : PartCause) (s : State) : State :=
  let s1 := resetRecords (stationOf s.straps) (Vector.replicate 9 Table.empty) s
  if badStraps s.straps then strapAndPart cause s1 else resetPartNotice cause s1

/-- A soft reset: the station code and the tables kept (R18, R178). -/
def softReset (s : State) : State := resetPartNotice .soft (resetRecords s.station (s.tables.map Table.soft) s)

/-- A hard reset: a cold reset with the straps read as they then stand, a setting that no command gives (R18, R189, assumption
19). -/
def hardReset (s : State) : State :=
  coldReset .hard ((s.setStraps (Config.strapsRead s.free)).setFree (s.free + 1))

/-- The reset that a RESET request asked for takes effect (R17, R189). -/
def applyReset (k : ResetKind) (s : State) : State :=
  match k with
  | .soft => softReset s
  | .hard => hardReset s

/-- The pending reset takes effect, if one is pending (R17). -/
def takeReset (s : State) : State :=
  match s.resetPending with
  | some k => applyReset k s
  | none => s

/-- A power-on reset with the straps at a setting (R8, R17, R18). -/
def powerOn (straps : BitVec 6) (s : State) : State := coldReset .powerOn (s.setStraps straps)

end Sys2Proof.Machine
end

