-- ==== Sys2Proof/Machine/Query.lean ====
section
/-! DEFINITION. QUERY's records: the values of each part of each record kind (R185, 11.5). A part or an index that a kind does
not have answers none. -/

namespace Sys2Proof.Machine

/-- An absent value (R190). -/
def absent : Int := -32768

/-- The two halves of a 32-bit counter, high half first (R190). -/
def halves (c : Counter) : List Int := [(c.toNat / 65536 : Nat), (c.toNat % 65536 : Nat)]

/-- The speed as a value: absent while LOST (R190). -/
def speedValue (s : State) : Int := if s.motion.status = .lost then absent else s.motion.speed

/-- The nine port counters in the order of R4. -/
def PortCounters.toList (c : PortCounters) : List Counter :=
  [c.accepted, c.checkErrors, c.formatErrors, c.overruns, c.transmitted, c.forwardDrops, c.noticeDrops, c.replyDrops
  , c.commandDrops]

/-- The eight classifier counters in the order of R27. -/
def ClassCounters.toList (c : ClassCounters) : List Counter :=
  [c.consumed, c.requested, c.forwarded, c.management, c.unrouted, c.gated, c.misdirected, c.dropped]

/-- Three counters of a list, as values. -/
def threeOf (l : List Counter) (k : Nat) : List Int := (((l.drop (3 * k)).take 3).map halves).flatten

/-- Kind 0: the part state. With no table loading the pointer is absent, with the cursor cleared its bank is absent (R184, R190);
the tables are 9 there (11.5). -/
def queryPart (s : State) (part : Int) : Option (List Int) :=
  match part with
  | 0 => some [s.part.code, s.station.toNat, s.cycle.toNat, s.trim
      , match s.loading with | some l => (l.table.val : Int) | none => 9
      , match s.loading with | some l => ((s.tab l.table).shadow.length : Int) | none => absent]
  | 1 => some (match s.cursor with | some (t, b) => [(t.val : Int), (b.code : Int)] | none => [9, absent])
  | _ => none

/-- Kind 1: a table. -/
def queryTable (t : Table) (part : Int) : Option (List Int) :=
  match part with
  | 0 => some [flagCode t.valid, t.active.length, t.shadowState.code, t.shadow.length, t.errorIndex, flagCode t.pendingSwap]
  | _ => none

/-- Kind 2: a signal record. -/
def querySignal (r : SigRec) (part : Int) : Option (List Int) :=
  match part with
  | 0 => some [r.value, r.lastRaw, r.age, r.status.code, flagCode r.clamp, r.lastSeq.toNat]
  | 1 => some [r.duplicates, r.skips, r.notAvail, r.shorts]
  | _ => none

/-- Kind 3: the motion state. -/
def queryMotion (s : State) (part : Int) : Option (List Int) :=
  match part with
  | 0 => some [speedValue s, s.motion.status.code, flagCode s.motion.standstill, s.motion.timer]
  | _ => none

/-- Kind 4: the rear-steer record. -/
def queryRear (r : RearSteer) (part : Int) : Option (List Int) :=
  match part with
  | 0 => some [r.target, r.command, r.state.code, r.trackTimer, flagCode r.latch]
  | _ => none

/-- Kind 5: the joint record. -/
def queryJoint (j : Joint) (part : Int) : Option (List Int) :=
  match part with
  | 0 => some [j.history.length, match j.history with | x :: _ => x.value | [] => absent
      , j.rate, j.damper, j.mode.code, j.guard]
  | 1 => some [j.guardTimer, j.torque]
  | _ => none

/-- Kind 6: the air record. -/
def queryAir (a : Air) (part : Int) : Option (List Int) :=
  match part with
  | 0 => some [a.pressure, a.level.code]
  | _ => none

/-- Kind 7: a corner. -/
def queryCorner (k : Corner) (part : Int) : Option (List Int) :=
  match part with
  | 0 => some [k.height, k.target, k.error, k.valve.code, k.cls.code, maskOf [k.frozenHeight, k.frozenTimeout, k.frozenKneel]]
  | 1 => some [k.settle, k.pulse, k.run, k.runStart, k.persist, k.dir.code]
  | 2 => some [k.loadPressure.getD absent]
  | _ => none

/-- Kind 8: an axle load. -/
def queryLoad (l : AxleLoad) (part : Int) : Option (List Int) :=
  match part with
  | 0 => some [l.load, l.status.code]
  | _ => none

/-- Kind 9: the kneel record. -/
def queryKneel (k : Kneel) (part : Int) : Option (List Int) :=
  match part with
  | 0 => some [k.state.code, k.timer, flagCode k.timeoutFlag, k.lastRefusal.code]
  | _ => none

/-- Kind 10: the hold record. -/
def queryHold (h : Hold) (part : Int) : Option (List Int) :=
  match part with
  | 0 => some [h.state.code, h.pressure, h.confirmTimer, flagCode h.timeoutFlag]
  | _ => none

/-- Kind 11: the drive record. -/
def queryDrive (d : Drive) (part : Int) : Option (List Int) :=
  match part with
  | 0 => some [flagCode d.inhibit, d.torque]
  | _ => none

/-- A claim's holder and stamp, or an absent pair (11.5). -/
def claimPair (l : List Claim) (k : Nat) : List Int :=
  match l[k]? with
  | some c => [c.holder.code, c.stamp.toNat]
  | none => [absent, absent]

/-- Kind 12: the hold set. -/
def queryClaims (l : List Claim) (part : Int) : Option (List Int) :=
  match part with
  | 0 => some ((l.length : Int) :: (claimPair l 0 ++ claimPair l 1))
  | 1 => some (claimPair l 2 ++ claimPair l 3 ++ claimPair l 4)
  | 2 => some (claimPair l 5 ++ claimPair l 6 ++ claimPair l 7)
  | _ => none

/-- Kind 13: a door. -/
def queryDoor (d : Door) (part : Int) : Option (List Int) :=
  match part with
  | 0 => some [d.state.code, d.position.code, flagCode d.pendingRelease, d.mode.code, d.timer, d.reversals]
  | 1 => some [flagCode d.closeDeferred, flagCode d.lastButton, flagCode d.lastHandle, flagCode d.tone]
  | _ => none

/-- Kind 14: a fault entry, or in part 2 the summary of the list, which reads no index. -/
def queryFault (u : FaultUnit) (index part : Int) : Option (List Int) :=
  if part = 2 then
    some [u.list.length, u.overflow, u.levels.steering.code, u.levels.joint.code, u.levels.height.code, u.levels.brake.code]
  else if index < 0 then none
  else
    match u.list[index.toNat]?, part with
    | some e, 0 =>
      some [e.code.code, e.subject, e.code.severity.code, flagCode (!e.active), flagCode e.code.latched, flagCode (!e.present)]
    | some e, 1 => some [e.count, e.first.toNat, e.last.toNat]
    | some _, _ => none
    | none, _ => none

/-- Kind 15: a port's counters. -/
def queryCounters (p : PortState) (part : Int) : Option (List Int) :=
  match part with
  | 0 => some (threeOf p.ctr.toList 0)
  | 1 => some (threeOf p.ctr.toList 1)
  | 2 => some (threeOf p.ctr.toList 2)
  | 3 => some (threeOf p.cls.toList 0)
  | 4 => some (threeOf p.cls.toList 1)
  | 5 => some (threeOf p.cls.toList 2)
  | 6 => some [p.score, flagCode p.linkFault]
  | _ => none

/-- Kind 16: the axle pressure record. -/
def queryAxle (a : AxlePressure) (part : Int) : Option (List Int) :=
  match part with
  | 0 => some [a.decel, a.pressure[0], a.pressure[1], a.pressure[2], flagCode a.holdFlag, flagCode a.backup]
  | 1 => some [a.driver[0], a.driver[1], a.driver[2], a.satTimer[0], a.satTimer[1], a.satTimer[2]]
  | _ => none

/-- A record of a kind without an index: the index is sent as 0 (11.5). -/
def noIndex (index : Int) (r : Option (List Int)) : Option (List Int) := if index = 0 then r else none

/-- A record of a kind with n members, indexed from 0. -/
def indexed (n : Nat) (index : Int) (f : Fin n → Option (List Int)) : Option (List Int) :=
  if h : 0 ≤ index ∧ index.toNat < n then f ⟨index.toNat, h.2⟩ else none

/-- The values of one part of a record (R185); none where the kind, the index or the part is refused. -/
def queryValues (s : State) (kind index part : Int) : Option (List Int) :=
  match kind with
  | 0 => noIndex index (queryPart s part)
  | 1 => indexed 9 index (fun t => queryTable (s.tab t) part)
  | 2 => indexed 96 index (fun i => querySignal s.signals[i] part)
  | 3 => noIndex index (queryMotion s part)
  | 4 => noIndex index (queryRear s.rear part)
  | 5 => noIndex index (queryJoint s.joint part)
  | 6 => noIndex index (queryAir s.air part)
  | 7 => indexed 6 index (fun c => queryCorner (s.corner c) part)
  | 8 => indexed 3 index (fun a => queryLoad s.loads[a] part)
  | 9 => noIndex index (queryKneel s.kneel part)
  | 10 => noIndex index (queryHold s.hold part)
  | 11 => noIndex index (queryDrive s.drive part)
  | 12 => noIndex index (queryClaims s.holdSet part)
  | 13 => indexed 4 (index - 1) (fun d => queryDoor (s.door d) part)
  | 14 => queryFault s.faults index part
  | 15 => indexed 2 index (fun p => queryCounters (if p = 0 then s.vehicle else s.chassis) part)
  | 16 => noIndex index (queryAxle s.axle part)
  | _ => none

end Sys2Proof.Machine
end

