-- ==== Sys2Proof/Machine/Management.lean ====
section
/-! DEFINITION. The management unit's fourteen requests (chapter 10). Each is judged in the order of R177 and answered by one
reply, which is offered after the request's effects and notices (assumption 16). -/

namespace Sys2Proof.Machine

/-! ### Replies (R13, R15, R177) -/

/-- A reply frame: its tag is 96 plus its place among the reply tags (11.2). -/
def replyFrame (dst : BitVec 6) (ix : Fin 50) (vals : List Val) (s : State) : Frame :=
  buildFrame s.station dst .mgmtReply (BitVec.ofNat 8 (96 + ix.val)) s.seq.reply[ix] vals

/-- Offer a reply to the vehicle port as an own frame, its counter raised (R13, R15). -/
def sendReply (dst : BitVec 6) (ix : Fin 50) (vals : List Val) (resetReply : Bool) (s : State) : State :=
  offerFrame .vehicle .reply (replyFrame dst ix vals s) resetReply
    (s.setSeq { s.seq with reply := s.seq.reply.set ix (s.seq.reply[ix] + 1) })

/-- The place of the DONE reply to a request tag 32..45: tag + 64 (11.2). -/
def doneIx (tag : Fin 14) : Fin 50 := ⟨tag.val, by omega⟩

/-- The place of the DONE reply to READ: 128 + 2 × table + bank (11.2). -/
def readIx (t : Fin 9) (b : Bank) : Fin 50 :=
  match b with
  | .active => ⟨32 + 2 * t.val, by omega⟩
  | .shadow => ⟨33 + 2 * t.val, by omega⟩

/-- A REFUSED reply: the request's tag and the reason (R177). -/
def refuse (src : BitVec 6) (tag : Nat) (r : RefusalReason) (s : State) : State :=
  sendReply src refusedTag [toVal tag, toVal r.code] false s

/-- A DONE reply with plain numbers. -/
def done (src : BitVec 6) (tag : Fin 14) (vals : List Int) (s : State) : State :=
  sendReply src (doneIx tag) (vals.map toVal) false s

/-- The request tag of 11.2 by its place. -/
def requestTag (tag : Fin 14) : Nat := 32 + tag.val

/-- Tests 1 and 3 of R177 before a request is carried out: BUSY while a reset is pending, BAD-ARGUMENT where the arguments do not
read. -/
def judged {α : Type} (src : BitVec 6) (tag : Fin 14) (args : Option α) (run : α → State) (s : State) : State :=
  if s.resetPending.isSome then refuse src (requestTag tag) .busy s
  else
    match args with
    | none => refuse src (requestTag tag) .badArgument s
    | some a => run a

/-! ### Loading (R179 to R181) -/

/-- A table at LOAD-BEGIN (R179). -/
def Table.begin (t : Table) : Table := { t with shadowState := .loading, shadow := [], errorIndex := 0, pendingSwap := false }

/-- The load begun (R179). -/
def beginLoad (t : Fin 9) (s : State) : State :=
  (s.setTab t (s.tab t).begin).setLoading (some { table := t, overrun := false, sum := 0, idle := 0 })

/-- LOAD-BEGIN past tests 1 to 3 (R179). -/
def loadBeginRun (src : BitVec 6) (t : Fin 9) (s : State) : State :=
  if (match s.loading with | some l => decide (l.table ≠ t) | none => false) then refuse src 32 .busy s
  else done src 0 [t.val, flagCode (s.tab t).pendingSwap] (beginLoad t s)

/-- LOAD-BEGIN (R179). -/
def loadBegin (src : BitVec 6) (args : List Val) (s : State) : State :=
  judged src 0 (argsLoadBegin args) (fun t => loadBeginRun src t s) s

/-- The sum modulo 65536 with values added (R180). -/
def sumOf (l : List Val) (x : BitVec 16) : BitVec 16 := l.foldl (· + ·) x

/-- The values of a LOAD-DATA appended up to the capacity, the sum and the overrun flag with them (R180). -/
def appendData (l : Loading) (vals : List Val) (s : State) : State :=
  let t := s.tab l.table
  let room := capacity l.table - t.shadow.length
  (s.setTab l.table { t with shadow := t.shadow ++ vals.take room }).setLoading
    (some { l with overrun := l.overrun || decide (room < vals.length), sum := sumOf vals l.sum, idle := 0 })

/-- LOAD-DATA past tests 1 to 3 (R180). -/
def loadDataRun (src : BitVec 6) (vals : List Val) (s : State) : State :=
  match s.loading with
  | none => refuse src 33 .notLoading s
  | some l =>
    let s1 := appendData l vals s
    done src 1 [(s1.tab l.table).shadow.length] s1

/-- LOAD-DATA (R180). -/
def loadData (src : BitVec 6) (args : List Val) (s : State) : State :=
  judged src 1 (argsLoadData args) (fun vals => loadDataRun src vals s) s

/-- The count test of LOAD-END (R181 test 2). -/
def countWrong (t : Fin 9) (count pointer : Nat) : Bool :=
  decide (count ≠ pointer)
    || (match fixedSize t with | some n => decide (count ≠ n) | none => false)
    || (match entrySize t with | some n => decide (count % n ≠ 0) | none => false)

/-- The outcome of a load and its error index: the first test of R181 that holds. -/
def loadOutcome (t : Fin 9) (l : Loading) (vals : List Val) (count : Nat) (sum : Val) : ShadowState × Nat :=
  if l.overrun then (.errorOverrun, 0)
  else if countWrong t count vals.length then (.errorCount, 0)
  else if sum ≠ l.sum then (.errorSum, 0)
  else
    match contentCheck t vals with
    | some k => (.errorContent, k)
    | none => (.complete, 0)

/-- The load closed with its outcome (R181). -/
def closeLoad (t : Fin 9) (o : ShadowState × Nat) (s : State) : State :=
  (s.setTab t { s.tab t with shadowState := o.1, errorIndex := o.2 }).setLoading none

/-- LOAD-END past tests 1 to 3 (R181). -/
def loadEndRun (src : BitVec 6) (a : Nat × Val) (s : State) : State :=
  match s.loading with
  | none => refuse src 34 .notLoading s
  | some l =>
    let o := loadOutcome l.table l (s.tab l.table).shadow a.1 a.2
    let vals : List Int := [l.table.val, o.1.code, o.2]
    done src 2 vals (sendNotice .loadDone vals (closeLoad l.table o s))

/-- LOAD-END (R181). -/
def loadEnd (src : BitVec 6) (args : List Val) (s : State) : State :=
  judged src 2 (argsLoadEnd args) (fun a => loadEndRun src a s) s

/-- The load abandoned (R180). -/
def abandonLoad (l : Loading) (s : State) : State :=
  sendNotice .loadAbandoned [l.table.val, (s.tab l.table).shadow.length]
    ((s.setTab l.table { s.tab l.table with shadowState := .empty, shadow := [] }).setLoading none)

/-- The idle timer at a cycle start, in every part state (R180). -/
def loadCycle (s : State) : State :=
  match s.loading with
  | none => s
  | some l => if 2000 ≤ l.idle + 1 then abandonLoad l s else s.setLoading (some { l with idle := l.idle + 1 })

/-! ### SWAP (R182) -/

/-- The mask names a structural table. -/
def namesStructural (m : Val) : Bool := m.getLsbD 0 || m.getLsbD 1 || m.getLsbD 2

/-- A named table whose shadow bank is not COMPLETE. -/
def namesUnready (m : Val) (s : State) : Bool :=
  tableIx.any (fun t => m.getLsbD t.val && decide ((s.tab t).shadowState ≠ .complete))

/-- The pending-swap flags of the named tables set (R182). -/
def setPendingSwaps (m : Val) (s : State) : State :=
  s.setTables (Vector.ofFn fun t => if m.getLsbD t.val then { s.tab t with pendingSwap := true } else s.tab t)

/-- A swap is taken at once: in CONFIG, or at standstill (R182). -/
def swapsNow (s : State) : Bool := decide (s.part = .config) || s.motion.standstill

/-- SWAP accepted: the flags set, and the swap taken at once or left waiting (R182). -/
def takeOrWait (s : State) : State := if s.part = .config then swapsConfig s else if s.motion.standstill then swapsRun s else s

/-- SWAP past tests 1 to 3 (R182). -/
def swapRun (src : BitVec 6) (m : Val) (s : State) : State :=
  if namesStructural m ∧ s.part ≠ .config then refuse src 35 .protectedTable s
  else if namesUnready m s then refuse src 35 .notReady s
  else
    let s1 := setPendingSwaps m s
    done src 3 [if swapsNow s then pendingMask s1 else 0, if swapsNow s then 0 else pendingMask s1] (takeOrWait s1)

/-- SWAP (R182). -/
def swap (src : BitVec 6) (args : List Val) (s : State) : State :=
  judged src 3 (argsSwap args) (fun m => swapRun src m s) s

/-! ### SELECT, READ and QUERY (R184, R185) -/

/-- SELECT (R184). -/
def select (src : BitVec 6) (args : List Val) (s : State) : State :=
  judged src 4 (argsSelect args) (fun c => done src 4 [c.1.val, c.2.code] (s.setCursor (some c))) s

/-- The values a bank holds (R184). -/
def Table.bank (t : Table) : Bank → List Val
  | .active => t.active
  | .shadow => t.shadow

/-- READ past test 3 (R184). -/
def readRun (src : BitVec 6) (a : Nat × Nat) (s : State) : State :=
  match s.cursor with
  | none => refuse src 37 .badArgument s
  | some (t, b) =>
    let vals := (s.tab t).bank b
    if vals.length < a.1 + a.2 then refuse src 37 .badArgument s
    else sendReply src (readIx t b) ((vals.drop a.1).take a.2) false s

/-- READ (R184). -/
def read (src : BitVec 6) (args : List Val) (s : State) : State :=
  judged src 5 (argsRead args) (fun a => readRun src a s) s

/-- QUERY past test 3 (R185). -/
def queryRun (src : BitVec 6) (a : Int × Int × Int) (s : State) : State :=
  match queryValues s a.1 a.2.1 a.2.2 with
  | none => refuse src 38 .badArgument s
  | some vals => done src 6 vals s

/-- QUERY (R185). -/
def query (src : BitVec 6) (args : List Val) (s : State) : State :=
  judged src 6 (argsQuery args) (fun a => queryRun src a s) s

/-! ### START, STOP and the claims (R177, R186, R187) -/

/-- All nine active banks are VALID (R186). -/
def allValid (s : State) : Bool := tableIx.all (fun t => s.tableValid t)

/-- START past tests 1 to 3 (R186). -/
def startRun (src : BitVec 6) (s : State) : State :=
  if s.part ≠ .config then refuse src 39 .state s
  else if allValid s = false then refuse src 39 .notReady s
  else if s.motion.standstill = false then refuse src 39 .moving s
  else done src 7 [0] (startPart s)

/-- START (R186). -/
def start (src : BitVec 6) (args : List Val) (s : State) : State :=
  judged src 7 (argsZero args) (fun _ => startRun src s) s

/-- STOP past tests 1 to 3 (R187). -/
def stopRun (src : BitVec 6) (s : State) : State :=
  if s.part ≠ .run then refuse src 40 .state s
  else if s.motion.standstill = false then refuse src 40 .moving s
  else done src 8 [0] (stopPart s)

/-- STOP (R187). -/
def stop (src : BitVec 6) (args : List Val) (s : State) : State :=
  judged src 8 (argsZero args) (fun _ => stopRun src s) s

/-- HOLD-ADD (R177). -/
def holdAdd (src : BitVec 6) (args : List Val) (s : State) : State :=
  judged src 9 (argsZero args) (fun _ => done src 9 [0] (deliver (addClaim .maint s))) s

/-- HOLD-REMOVE (R177). -/
def holdRemove (src : BitVec 6) (args : List Val) (s : State) : State :=
  judged src 10 (argsZero args) (fun _ => done src 10 [0] (removeClaim .maint s)) s

/-! ### CLEAR-FAULTS, CLEAR-COUNTERS and RESET -/

/-- CLEAR-FAULTS (R169). -/
def clearFaultsRequest (src : BitVec 6) (args : List Val) (s : State) : State :=
  judged src 11 (argsZero args) (fun _ => done src 11 [0] (clearFaults s)) s

/-- A port at CLEAR-COUNTERS: every counter 0, the frames still queued marked (R8, R27). -/
def PortState.clear (p : PortState) : PortState :=
  { p with ctr := PortCounters.zero, cls := ClassCounters.zero, rx := p.rx.map (fun e => { e with marked := true }) }

/-- A signal record at CLEAR-COUNTERS (R34). -/
def SigRec.clear (r : SigRec) : SigRec := { r with duplicates := 0, skips := 0, notAvail := 0, shorts := 0 }

/-- The counters cleared (R8, R27, R34). -/
def clearAllCounters (s : State) : State :=
  ((s.setVehicle s.vehicle.clear).setChassis s.chassis.clear).setSignals (s.signals.map SigRec.clear)

/-- CLEAR-COUNTERS (R8, R27, R34). -/
def clearCounters (src : BitVec 6) (args : List Val) (s : State) : State :=
  judged src 12 (argsZero args) (fun _ => done src 12 [0] (clearAllCounters s)) s

/-- RESET accepted: the reply queued, the reset pending; a reply that finds no place lets the reset take effect at once (R17,
R189). -/
def acceptReset (src : BitVec 6) (k : ResetKind) (s : State) : State :=
  let placed := hasPlace s.vehicle.tx .own
  let s1 := sendReply src (doneIx 13) [toVal k.code] true (s.setResetPending (some k))
  if placed then s1 else takeReset s1

/-- RESET past tests 1 to 3 (R189). -/
def resetRun (src : BitVec 6) (k : ResetKind) (s : State) : State :=
  if s.part ≠ .config ∧ s.motion.standstill = false then refuse src 45 .moving s else acceptReset src k s

/-- RESET (R189). -/
def resetRequest (src : BitVec 6) (args : List Val) (s : State) : State :=
  judged src 13 (argsReset args) (fun k => resetRun src k s) s

/-! ### Requests from the vehicle port -/

/-- A management request by its tag (R177): BUSY first, then UNKNOWN-REQUEST. -/
def manage (src : BitVec 6) (tag : Nat) (args : List Val) (s : State) : State :=
  match tag with
  | 32 => loadBegin src args s
  | 33 => loadData src args s
  | 34 => loadEnd src args s
  | 35 => swap src args s
  | 36 => select src args s
  | 37 => read src args s
  | 38 => query src args s
  | 39 => start src args s
  | 40 => stop src args s
  | 41 => holdAdd src args s
  | 42 => holdRemove src args s
  | 43 => clearFaultsRequest src args s
  | 44 => clearCounters src args s
  | 45 => resetRequest src args s
  | _ => if s.resetPending.isSome then refuse src tag .busy s else refuse src tag .unknownRequest s

end Sys2Proof.Machine
end

