-- ==== Sys2Proof/Machine/Requests.lean ====
section
/-! DEFINITION. The six cab requests at their owners (R23, R107, R111, R121, R148, R153). -/

namespace Sys2Proof.Machine

/-- DOOR-RELEASE (R148): a malformed mask refused whole, else the masked doors in index order, each door's change complete, its
report of CONFIRMED delivered, before the next is worked. -/
def doorRelease (mask : Val) (s : State) : State :=
  if maskOk mask then doorIx.foldl (fun x d => if mask.getLsbD d.val then deliver (releaseDoor d x) else x) s
  else releaseRefused 0 0 .malformed s

/-- DOOR-CLOSE (R153): a malformed mask refused whole; nothing in CONFIG; else the masked doors in index order. -/
def doorClose (mask : Val) (s : State) : State :=
  if maskOk mask then
    if s.running then doorIx.foldl (fun x d => if mask.getLsbD d.val then closeDoor d x else x) s else s
  else releaseRefused 1 0 .malformed s

/-- KNEEL-LOWER (R107). -/
def kneelLowerRequest (s : State) : State := deliver (kneelLower s)

/-- KNEEL-RAISE (R111). -/
def kneelRaiseRequest (s : State) : State := kneelRaise s

/-- DRIVER-HOLD-ON (R121). -/
def driverHoldOn (s : State) : State := deliver (addClaim .driver s)

/-- DRIVER-HOLD-OFF (R121). -/
def driverHoldOff (s : State) : State := removeClaim .driver s

/-- The tags of the six cab requests (11.2). -/
def cabTag (tag : BitVec 8) : Bool := decide (16 ≤ tag.toNat) && decide (tag.toNat ≤ 21)

/-- A cab request delivered to its owner by its tag (R23). -/
def cabRequest (f : Frame) (s : State) : State :=
  match f.tag.toNat with
  | 16 => doorRelease (f.values.getD 0 0#16) s
  | 17 => doorClose (f.values.getD 0 0#16) s
  | 18 => kneelLowerRequest s
  | 19 => kneelRaiseRequest s
  | 20 => driverHoldOn s
  | 21 => driverHoldOff s
  | _ => s

end Sys2Proof.Machine
end

