-- ==== Sys2Proof/Machine/Link.lean ====
section
/-! DEFINITION. The ports and the classifier: arrival (R3 to R7), hand-on (R20 to R27), sending (R16, R17). -/

namespace Sys2Proof.Machine

/-! ### Error score and link fault (R6, R7) -/

/-- The error threshold in force (R7). -/
def errorThreshold (s : State) : Int := if s.tableValid 8 then s.param 8 0 else 128

/-- The link fault of a port (R7). -/
def linkCode : Port → FaultCode
  | .vehicle => .linkV
  | .chassis => .linkC

/-- An error raises the score by 8, up to 255 (R6). -/
def scoreUp (n : Nat) : Nat := min 255 (n + 8)

/-- An error at a port: the score, and the link fault when the flag is clear and the score at or above the threshold (R6,
R7). -/
def linkError (p : Port) (s : State) : State :=
  let s1 := s.modPort p (fun x => { x with score := scoreUp x.score })
  if (s1.port p).linkFault = false ∧ errorThreshold s ≤ ((s1.port p).score : Int) then
    raiseFault (linkCode p) (portIndex p) (s1.modPort p (fun x => { x with linkFault := true }))
  else s1

/-- The error score at a cycle start: it falls by 1, and at 0 a set flag clears and the cause ends (R6, R7). -/
def scoreCycle (p : Port) (s : State) : State :=
  let s1 := s.modPort p (fun x => { x with score := x.score - 1 })
  if (s1.port p).linkFault = true ∧ (s1.port p).score = 0 then
    endCause (linkCode p) (portIndex p) (s1.modPort p (fun x => { x with linkFault := false }))
  else s1

/-! ### Arrival (R3, R5) -/

/-- The receive queue is full (R5). -/
def rxFull (x : PortState) : Bool := decide (16 ≤ x.rx.length)

/-- An accepted frame at the tail of the receive queue (R3). -/
def acceptFrame (f : Frame) (x : PortState) : PortState :=
  { x with rx := x.rx ++ [{ frame := f, marked := false }], ctr := { x.ctr with accepted := x.ctr.accepted + 1 } }

/-- A frame that passed check and format: the overrun test (R3). -/
def queueFrame (p : Port) (f : Frame) (s : State) : State :=
  if rxFull (s.port p) then s.modCtr p (fun c => { c with overruns := c.overruns + 1 }) else s.modPort p (acceptFrame f)

/-- A frame's octets arrive at a port (R3): the check, format and overrun tests in order. -/
def arrive (p : Port) (octets : List Byte) (s : State) : State :=
  if checkOk octets then
    match parseFrame octets with
    | some f => queueFrame p f s
    | none => linkError p (s.modCtr p (fun c => { c with formatErrors := c.formatErrors + 1 }))
  else linkError p (s.modCtr p (fun c => { c with checkErrors := c.checkErrors + 1 }))

/-! ### Hand-on (R20 to R27) -/

/-- Raise a classifier counter of a port, unless the frame is marked (R27). -/
def countClass (p : Port) (marked : Bool) (f : ClassCounters → ClassCounters) (s : State) : State :=
  if marked then s else s.modPort p (fun x => { x with cls := f x.cls })

/-- A frame offered unchanged to the other port (R14, R24). -/
def forward (p : Port) (f : Frame) (s : State) : State := offerFrame (otherPort p) .forward f false s

/-- The frame is dropped and counted as misdirected (R20, R22, R23). -/
def misdirect (p : Port) (m : Bool) (s : State) : State := countClass p m (fun c => { c with misdirected := c.misdirected + 1 }) s

/-- A CONSUME entry (R22). -/
def consume (p : Port) (m : Bool) (f : Frame) (s : State) : State :=
  if f.kind = .sample then takeSample f (countClass p m (fun c => { c with consumed := c.consumed + 1 }) s) else misdirect p m s

/-- A REQUEST entry (R23). -/
def routeRequest (p : Port) (m : Bool) (f : Frame) (s : State) : State :=
  if f.kind = .request ∧ p = .vehicle ∧ cabTag f.tag then
    cabRequest f (countClass p m (fun c => { c with requested := c.requested + 1 }) s)
  else misdirect p m s

/-- A FORWARD entry, or a FORWARD-IF entry whose gate is satisfied (R24, R25). -/
def routeForward (p : Port) (m : Bool) (f : Frame) (s : State) : State :=
  forward p f (countClass p m (fun c => { c with forwarded := c.forwarded + 1 }) s)

/-- A matching entry decides the frame (R22 to R26). -/
def routeBy (e : RouteEntry) (p : Port) (m : Bool) (f : Frame) (s : State) : State :=
  match Action.ofCode e.action with
  | some .consume => consume p m f s
  | some .request => routeRequest p m f s
  | some .forward => routeForward p m f s
  | some .forwardIf =>
    if gateSatisfied e.requireTrue e.requireFalse s then routeForward p m f s
    else countClass p m (fun c => { c with gated := c.gated + 1 }) s
  | some .drop => countClass p m (fun c => { c with dropped := c.dropped + 1 }) s
  | none => countClass p m (fun c => { c with dropped := c.dropped + 1 }) s

/-- The entries of the active T0, none while it is EMPTY (R21). -/
def State.routes (s : State) : List RouteEntry := if s.tableValid 0 then routeEntries (s.tab 0).active else []

/-- The classifier: the first matching entry decides (R21). -/
def classify (p : Port) (m : Bool) (f : Frame) (s : State) : State :=
  match s.routes.find? (fun e => e.matchesFrame p f) with
  | some e => routeBy e p m f s
  | none => countClass p m (fun c => { c with unrouted := c.unrouted + 1 }) s

/-- The management bypass is met (R20). -/
def bypasses (f : Frame) (s : State) : Bool := decide (f.kind = .mgmtReq) && decide (f.dst = s.station)

/-- A frame handed on (R20). The management counter counts the request before it is taken (assumption 44). -/
def handOn (p : Port) (e : RxEntry) (s : State) : State :=
  if bypasses e.frame s then
    match p with
    | .vehicle =>
      manage e.frame.src e.frame.tag.toNat e.frame.values
        (countClass p e.marked (fun c => { c with management := c.management + 1 }) s)
    | .chassis => misdirect p e.marked s
  else classify p e.marked e.frame s

/-- The head frame of a receive queue is handed on and leaves the queue (R5, R20); an empty queue has none (assumption 13). -/
def handOnHead (p : Port) (s : State) : State :=
  match (s.port p).rx with
  | [] => s
  | e :: rest => handOn p e (s.modPort p (fun x => { x with rx := rest }))

/-! ### Sending (R16, R17) -/

/-- The head frame of a transmit queue has been sent (R16); when it was the reply to a RESET, the reset takes effect (R17). An
empty queue has none (assumption 13). While that reply still waits, the chassis port goes on sending, frames placed in its queue
after the reply included; the reset empties those that are left (R17 against R16: assumption 68). -/
def sent (p : Port) (s : State) : State :=
  match (s.port p).tx with
  | [] => s
  | e :: rest =>
    let s1 := s.modPort p (fun x => { x with tx := rest, ctr := { x.ctr with transmitted := x.ctr.transmitted + 1 } })
    if e.resetReply then takeReset s1 else s1

end Sys2Proof.Machine
end

