-- ==== Sys2Proof/Machine/Schedule.lean ====
section
/-! DEFINITION. The command records and the transmit scheduler (1.6, 11.3), and the work of a cycle start (R9, R10). -/

namespace Sys2Proof.Machine

/-! ### Command records (11.3) -/

/-- REAR-STEER: command, lock flag, state (R63). -/
def rearRecord (s : State) : List Int :=
  [s.rear.command, flagCode (decide (s.rear.state = .locked ∨ s.rear.state = .frozen)), s.rear.state.code]

/-- JOINT: damper pressure command, damper mode, guard level, joint rate (R78). -/
def jointRecord (s : State) : List Int := [s.joint.damper, s.joint.mode.code, s.joint.guard, s.joint.rate]

/-- BRAKE: the axle pressures, hold flag, backup flag (R140). -/
def brakeRecord (s : State) : List Int :=
  [s.axle.pressure[0], s.axle.pressure[1], s.axle.pressure[2], flagCode s.axle.holdFlag, flagCode s.axle.backup]

/-- HEIGHT: the valve commands of the corners (R101). -/
def heightRecord (s : State) : List Int := cornerIx.map (fun c => (s.corner c).valve.command)

/-- The command of a door's state (8.4). -/
def DoorState.command : DoorState → DoorCommand
  | .unknown => .keep | .locked => .keep | .releaseWait => .keep | .released => .unlock | .opening => .openDoor
  | .reversing => .openDoor | .openState => .keep | .warning => .keep | .closing => .close | .emergency => .stop | .fault => .stop

/-- A command as the frame carries it: OPEN and UNLOCK are KEEP while the open permission is absent (R146). -/
def DoorCommand.permitted (permission : Bool) (c : DoorCommand) : DoorCommand :=
  match c with
  | .openDoor => if permission then .openDoor else .keep
  | .unlock => if permission then .unlock else .keep
  | .keep => .keep
  | .close => .close
  | .stop => .stop

/-- The command of a door in the DOOR frame (R146). -/
def doorCommand (s : State) (d : Fin 4) : DoorCommand := (s.door d).state.command.permitted (openPermission s)

/-- DOOR: the door commands, and the mask of the doors whose tone is on (R164). -/
def doorRecord (s : State) : List Int :=
  doorIx.map (fun d => (doorCommand s d).code) ++ [maskOf (doorIx.map (fun d => (s.door d).tone))]

/-- DRIVE: drive inhibit, torque limit (R134). -/
def driveRecord (s : State) : List Int := [flagCode s.drive.inhibit, s.drive.torque]

/-- The degradation levels packed (11.3). -/
def packedLevels (l : Levels) : Int := l.steering.code + 4 * l.joint.code + 16 * l.height.code + 64 * l.brake.code

/-- STATUS (R188, 11.3). -/
def statusRecord (s : State) : List Int :=
  [s.part.code, speedValue s
  , maskOf [s.motion.standstill, s.faults.amber, s.faults.red, s.drive.inhibit, s.allLocked]
  , s.hold.state.code * 16 + s.holdSet.length
  , s.kneel.state.code * 64 + s.air.level.code * 8 + s.joint.guard
  , packedLevels s.faults.levels]

/-- The values of a command record as it stands (R12). -/
def recordValues (r : CmdRec) (s : State) : List Int :=
  match r with
  | .rearSteer => rearRecord s
  | .joint => jointRecord s
  | .brake => brakeRecord s
  | .height => heightRecord s
  | .door => doorRecord s
  | .drive => driveRecord s
  | .status => statusRecord s

/-- A command frame: to all stations, with the record's sequence (R13). -/
def commandFrame (r : CmdRec) (s : State) : Frame :=
  buildFrame s.station 63#6 .command (commandTag r) s.seq.command[r.index] ((recordValues r s).map toVal)

/-- Build a record into a frame, raise its counter, and offer it to a port as an own frame (R11, R13, R15). -/
def buildCommand (p : Port) (r : CmdRec) (s : State) : State :=
  offerFrame p .command (commandFrame r s) false
    (s.setSeq { s.seq with command := s.seq.command.set r.index (s.seq.command[r.index] + 1) })

/-- One item of a schedule entry. -/
def buildItem (v : Val) (s : State) : State :=
  match scheduleItem v with
  | some (p, r) => buildCommand p r s
  | none => s

/-- The items of the schedule entry in use; none while T2 is EMPTY (R11, R178). -/
def scheduleNow (s : State) : List Val :=
  if s.tableValid 2 then scheduleEntry (s.tab 2).active (s.cycle.toNat % 16) else []

/-- The scheduler at a cycle start (R11). -/
def scheduleCycle (s : State) : State := if s.running then (scheduleNow s).foldl (fun x v => buildItem v x) s else s

/-! ### Cycle start (R10) -/

/-- The pieces of work at a cycle start, one for each block or record that counts there. -/
inductive Job where
  | scoreVehicle | scoreChassis | signals | motion | rear | joint | corners | kneel | hold | saturation | doors | load
  | schedule
deriving DecidableEq, Repr

/-- The thirteen jobs. -/
def allJobs : List Job :=
  [.scoreVehicle, .scoreChassis, .signals, .motion, .rear, .joint, .corners, .kneel, .hold, .saturation, .doors, .load
  , .schedule]

/-- The axles' saturation counts (R138), in axle order (assumption 65). -/
def saturationCycle (s : State) : State := axleIx.foldl (fun x a => satCycle a x) s

/-- One job's work at a cycle start. -/
def runJob (j : Job) (s : State) : State :=
  match j with
  | .scoreVehicle => scoreCycle .vehicle s
  | .scoreChassis => scoreCycle .chassis s
  | .signals => signalsCycle s
  | .motion => standstillCycle s
  | .rear => rearCycle s
  | .joint => jointCycle s
  | .corners => cornersCycle s
  | .kneel => kneelCycle s
  | .hold => holdCycle s
  | .saturation => saturationCycle s
  | .doors => doorsCycle s
  | .load => loadCycle s
  | .schedule => scheduleCycle s

/-- The n-th order of the elements of a list of k: the digits of n in the factorial base choose them one after another. -/
def orderFrom {α : Type} : Nat → Nat → List α → List α
  | 0, _, _ => []
  | k + 1, n, l =>
    match l[n % (k + 1)]? with
    | some x => x :: orderFrom k (n / (k + 1)) (l.eraseIdx (n % (k + 1)))
    | none => l

/-- The order of the jobs that a number names. -/
def orderOf (n : Nat) : List Job := orderFrom 13 n allJobs

/-- The cycle timer's own work: the number raised, the trim taken (R9, R10). -/
def timerCycle (s : State) : State := (s.setCycle (s.cycle + 1)).setTrim (trimNow s)

/-- A cycle start with the jobs in an order (R10). -/
def cycleStartIn (order : List Job) (s : State) : State := order.foldl (fun x j => runJob j x) (timerCycle s)

/-- A cycle start: the order of the blocks is the part's (R10, assumption 1). -/
def cycleStart (s : State) : State := cycleStartIn (orderOf (Config.cycleOrder s.free)) (s.setFree (s.free + 1))

end Sys2Proof.Machine
end

