-- ==== Sys2Proof/Machine/CabCommands.lean ====
section
/-! DEFINITION. The meanings of the six cab requests as commands: the request delivered to its owner, past the port's queue and
counters. -/

namespace Sys2Proof.Machine

/-- DOOR-RELEASE (R148). -/
def execDoorRelease (mask : Val) (s : State) : Host.Outcome State Fault Refusal := .next (doorRelease mask s)

/-- DOOR-CLOSE (R153). -/
def execDoorClose (mask : Val) (s : State) : Host.Outcome State Fault Refusal := .next (doorClose mask s)

/-- KNEEL-LOWER (R107). -/
def execKneelLower (s : State) : Host.Outcome State Fault Refusal := .next (kneelLowerRequest s)

/-- KNEEL-RAISE (R111). -/
def execKneelRaise (s : State) : Host.Outcome State Fault Refusal := .next (kneelRaiseRequest s)

/-- DRIVER-HOLD-ON (R121). -/
def execDriverHoldOn (s : State) : Host.Outcome State Fault Refusal := .next (driverHoldOn s)

/-- DRIVER-HOLD-OFF (R121). -/
def execDriverHoldOff (s : State) : Host.Outcome State Fault Refusal := .next (driverHoldOff s)

end Sys2Proof.Machine
end

