-- ==== Sys2Proof/Machine/EventCommands.lean ====
section
/-! DEFINITION. The meanings of the internal events. Each is the count of its own timer at a cycle start, made when that count
brings the event about; where it would not, the command finds nothing due and changes nothing (assumption 10). CYCLE_START
makes all of these counts itself. -/

namespace Sys2Proof.Machine

/-- An event that is due is worked; one that is not changes nothing. -/
def whenDue (due : Bool) (f : State → State) (s : State) : State := if due then f s else s

/-! ### Links and signals -/

/-- The score falls to 0 with the flag set (R7). -/
def healDue (p : Port) (s : State) : Bool := (s.port p).linkFault && decide ((s.port p).score ≤ 1)

/-- LINK_FAULT_HEAL (R7). -/
def execLinkFaultHeal (p : Port) (s : State) : Host.Outcome State Fault Refusal :=
  .next (whenDue (healDue p s) (scoreCycle p) s)

/-- SIGNAL_STALE (R40): a FRESH record that its count makes stale. -/
def execSignalStale (i : Fin 96) (s : State) : Host.Outcome State Fault Refusal :=
  .next (ageOne i.val (fun c => decide (c.before.status = .fresh) && decide (c.after.status ≠ .fresh)) s)

/-- SIGNAL_HOLD_EXPIRY (R40): a HELD record that its count makes LOST. -/
def execSignalHoldExpiry (i : Fin 96) (s : State) : Host.Outcome State Fault Refusal :=
  .next (ageOne i.val (fun c => decide (c.before.status = .held) && decide (c.after.status = .lost)) s)

/-! ### Running gear -/

/-- The standstill timer reaches the standstill time (R46). -/
def standstillDue (s : State) : Bool :=
  !s.motion.standstill && s.tableValid 8 && decide (s.motion.status = .valid) && decide (s.motion.speed ≤ s.param 8 17)
    && decide (s.param 8 19 ≤ ((s.motion.timer + 1 : Nat) : Int))

/-- STANDSTILL_SET (R46). -/
def execStandstillSet (s : State) : Host.Outcome State Fault Refusal := .next (whenDue (standstillDue s) standstillCycle s)

/-- The tracking timer reaches the track time (R62). -/
def trackingDue (s : State) : Bool := decide (s.rear.state ≠ .parked) && (trackTest s).2

/-- REAR_TRACKING (R62). -/
def execRearTracking (s : State) : Host.Outcome State Fault Refusal := .next (whenDue (trackingDue s) trackWork s)

/-- The guard's fall condition has held for the minimum duration (R73). -/
def guardFallDue (s : State) : Bool :=
  s.running && guardWatches s && decide (s.joint.guard = 1 ∨ s.joint.guard = 2) && guardFalls s s.joint.guard
    && decide (s.param 4 32 ≤ ((s.joint.guardTimer + 1 : Nat) : Int))

/-- GUARD_FALL (R73). -/
def execGuardFall (s : State) : Host.Outcome State Fault Refusal := .next (whenDue (guardFallDue s) jointCycle s)

/-! ### Corners -/

/-- The persistence count of a corner makes it act (R90). -/
def persistenceDue (c : Fin 6) (s : State) : Bool :=
  s.running && decide ((s.corner c).valve = .hold) && decide ((persistCount s c (s.corner c)).valve ≠ .hold)

/-- The persistence count of one corner, and the arbiter (R90). -/
def persistWork (c : Fin 6) (s : State) : State := arbitrate (s.setCorner c (persistCount s c (s.corner c)))

/-- PERSISTENCE_ELAPSED (R90). -/
def execPersistenceElapsed (c : Fin 6) (s : State) : Host.Outcome State Fault Refusal :=
  .next (whenDue (persistenceDue c s) (persistWork c) s)

/-- A corner's run with its timers counted (R88). -/
def countedRun (c : Fin 6) (s : State) : Corner := (s.corner c).countRun (minimumPulse s)

/-- The count ends the corner's run by the end test (R94). -/
def pulseDue (c : Fin 6) (s : State) : Bool :=
  s.running && (s.corner c).valve.inRun && !(s.corner c).frozen && (countedRun c s).runOver (deadbandHalf s) (minimumPulse s)

/-- The count and the end of a run, and the arbiter (R94). -/
def pulseWork (c : Fin 6) (s : State) : State := arbitrate (s.setCorner c ((countedRun c s).endRun (settleTime s)))

/-- MINIMUM_PULSE (R94). -/
def execMinimumPulse (c : Fin 6) (s : State) : Host.Outcome State Fault Refusal :=
  .next (whenDue (pulseDue c s) (pulseWork c) s)

/-- The count takes the corner's run past its timeout (R95). -/
def runTimeoutDue (c : Fin 6) (s : State) : Bool :=
  s.running && !(s.corner c).frozen && !(countedRun c s).runOver (deadbandHalf s) (minimumPulse s)
    && timedOut s (countedRun c s)

/-- The count and the timeout test of a run, and the arbiter (R95). -/
def runTimeoutWork (c : Fin 6) (s : State) : State := arbitrate (timeoutTest c (s.setCorner c (countedRun c s)))

/-- RUN_TIMEOUT (R95). -/
def execRunTimeout (c : Fin 6) (s : State) : Host.Outcome State Fault Refusal :=
  .next (whenDue (runTimeoutDue c s) (runTimeoutWork c) s)

/-! ### Kneel -/

/-- The kneel timer passes the lowering timeout (R110). -/
def loweringDue (s : State) : Bool :=
  s.running && decide (s.kneel.state = .lowering) && decide (s.param 5 37 < ((s.kneel.timer + 1 : Nat) : Int))

/-- LOWERING_TIMEOUT (R110). -/
def execLoweringTimeout (s : State) : Host.Outcome State Fault Refusal := .next (whenDue (loweringDue s) kneelCycle s)

/-- The kneel timer passes the raising timeout (R116). -/
def raisingDue (s : State) : Bool :=
  s.running && decide (s.kneel.state = .raising) && !s.kneel.timeoutFlag
    && decide (s.param 5 38 < ((s.kneel.timer + 1 : Nat) : Int))

/-- RAISING_TIMEOUT (R116). -/
def execRaisingTimeout (s : State) : Host.Outcome State Fault Refusal := .next (whenDue (raisingDue s) kneelCycle s)

/-! ### Hold and brakes -/

/-- The confirm timer passes the confirm timeout (R128). -/
def confirmDue (s : State) : Bool :=
  s.running && decide (s.hold.state = .applying) && !s.hold.timeoutFlag
    && decide (s.param 6 17 < ((s.hold.confirmTimer + 1 : Nat) : Int))

/-- CONFIRM_TIMEOUT (R128). -/
def execConfirmTimeout (s : State) : Host.Outcome State Fault Refusal := .next (whenDue (confirmDue s) holdCycle s)

/-- The release rate brings p_hold to 0 (R130). -/
def rampDue (s : State) : Bool :=
  s.running && decide (s.hold.state = .releasing) && decide (s.hold.pressure ≤ s.param 6 19)

/-- RAMP_END (R130). -/
def execRampEnd (s : State) : Host.Outcome State Fault Refusal := .next (whenDue (rampDue s) holdCycle s)

/-- An axle's saturation timer reaches the saturation time (R138). -/
def saturationDue (a : Fin 3) (s : State) : Bool :=
  s.running && decide (maxPressure s a < s.axle.driver[a]) && decide (s.axle.satTimer[a] < 255)
    && decide (((s.axle.satTimer[a] + 1 : Nat) : Int) = s.param 6 20)

/-- BRAKE_SATURATED (R138). -/
def execBrakeSaturated (a : Fin 3) (s : State) : Host.Outcome State Fault Refusal :=
  .next (whenDue (saturationDue a s) (satCycle a) s)

/-! ### Doors and edge lines -/

/-- A door's timer, counted, in an integer. -/
def doorCounted (d : Fin 4) (s : State) : Int := ((s.door d).timer + 1 : Nat)

/-- An opening door passes its opening timeout (R152). -/
def openingDue (d : Fin 4) (s : State) : Bool :=
  s.running && decide ((s.door d).state = .opening ∨ (s.door d).state = .reversing) && openPermission s
    && decide (doorParam s d 3 < doorCounted d s)

/-- OPENING_TIMEOUT (R152). -/
def execOpeningTimeout (d : Fin 4) (s : State) : Host.Outcome State Fault Refusal :=
  .next (whenDue (openingDue d s) (openingCycle d) s)

/-- A closing door passes its closing timeout (R158). -/
def closingDue (d : Fin 4) (s : State) : Bool :=
  s.running && decide ((s.door d).state = .closing) && decide (doorParam s d 4 < doorCounted d s)

/-- CLOSING_TIMEOUT (R158). -/
def execClosingTimeout (d : Fin 4) (s : State) : Host.Outcome State Fault Refusal :=
  .next (whenDue (closingDue d s) (closingCycle d) s)

/-- A WARNING door reaches the warning time (R157). -/
def warningDue (d : Fin 4) (s : State) : Bool :=
  s.running && decide ((s.door d).state = .warning) && decide (doorParam s d 5 ≤ doorCounted d s)

/-- WARNING_END (R157). -/
def execWarningEnd (d : Fin 4) (s : State) : Host.Outcome State Fault Refusal :=
  .next (whenDue (warningDue d s) (warningCycle d) s)

/-- An OPEN door reaches its auto-close dwell (R154). -/
def dwellDue (d : Fin 4) (s : State) : Bool :=
  s.running && decide ((s.door d).state = .openState) && decide (doorParam s d 6 ≠ 0)
    && decide (((s.door d).reversals : Int) < reversalLimit s d) && !(s.door d).closeDeferred
    && decide (doorParam s d 6 ≤ doorCounted d s)

/-- DWELL_END (R154). -/
def execDwellEnd (d : Fin 4) (s : State) : Host.Outcome State Fault Refusal := .next (whenDue (dwellDue d s) (openCycle d) s)

/-- The load idle timer reaches 2000 (R180). -/
def abandonDue (s : State) : Bool :=
  match s.loading with
  | some l => decide (2000 ≤ l.idle + 1)
  | none => false

/-- LOAD_ABANDON (R180). -/
def execLoadAbandon (s : State) : Host.Outcome State Fault Refusal := .next (whenDue (abandonDue s) loadCycle s)

/-- EDGE_LINE_CHANGE (R160). -/
def execEdgeLineChange (d : Fin 4) (high : Bool) (s : State) : Host.Outcome State Fault Refusal := .next (lineLevel d high s)

/-- EDGE_FILTER_EXPIRY (R160): the rest of the filter time of a running filter has passed (assumption 12). -/
def execEdgeFilterExpiry (d : Fin 4) (s : State) : Host.Outcome State Fault Refusal := .next (filterExpiry d s)

end Sys2Proof.Machine
end

