-- ==== Sys2Proof/Machine/LinkCommands.lean ====
section
/-! DEFINITION. The meanings of the link commands: FRAME_ARRIVAL, FRAME_HAND_ON, FRAME_SENT, CYCLE_START, POWER_ON_RESET. -/

namespace Sys2Proof.Machine

/-- FRAME_ARRIVAL (R3). -/
def execFrameArrival (p : Port) (octets : List Byte) (s : State) : Host.Outcome State Fault Refusal := .next (arrive p octets s)

/-- FRAME_HAND_ON (R20). -/
def execFrameHandOn (p : Port) (s : State) : Host.Outcome State Fault Refusal := .next (handOnHead p s)

/-- FRAME_SENT (R16, R17). -/
def execFrameSent (p : Port) (s : State) : Host.Outcome State Fault Refusal := .next (sent p s)

/-- CYCLE_START (R10). -/
def execCycleStart (s : State) : Host.Outcome State Fault Refusal := .next (cycleStart s)

/-- POWER_ON_RESET (R8, R18). -/
def execPowerOnReset (straps : BitVec 6) (s : State) : Host.Outcome State Fault Refusal := .next (powerOn straps s)

end Sys2Proof.Machine
end

