-- ==== Sys2Proof/Machine/ManagementCommands.lean ====
section
/-! DEFINITION. The meanings of the fourteen management requests as commands: the request delivered to the management unit, past
the vehicle port's queue and counters. Operands that no accepted frame carries stop with the fault illFormedRequest (R3). -/

namespace Sys2Proof.Machine

/-- A request whose source and value count an accepted frame can carry (R3), else the fault. -/
def asRequest (src : BitVec 6) (args : List Val) (run : State → State) (s : State) : Host.Outcome State Fault Refusal :=
  if requestOk src args then .next (run s) else .fault .illFormedRequest

/-- LOAD-BEGIN (R179). -/
def execLoadBegin (src : BitVec 6) (args : List Val) (s : State) : Host.Outcome State Fault Refusal :=
  asRequest src args (loadBegin src args) s

/-- LOAD-DATA (R180). -/
def execLoadData (src : BitVec 6) (args : List Val) (s : State) : Host.Outcome State Fault Refusal :=
  asRequest src args (loadData src args) s

/-- LOAD-END (R181). -/
def execLoadEnd (src : BitVec 6) (args : List Val) (s : State) : Host.Outcome State Fault Refusal :=
  asRequest src args (loadEnd src args) s

/-- SWAP (R182). -/
def execSwap (src : BitVec 6) (args : List Val) (s : State) : Host.Outcome State Fault Refusal :=
  asRequest src args (swap src args) s

/-- SELECT (R184). -/
def execSelect (src : BitVec 6) (args : List Val) (s : State) : Host.Outcome State Fault Refusal :=
  asRequest src args (select src args) s

/-- READ (R184). -/
def execRead (src : BitVec 6) (args : List Val) (s : State) : Host.Outcome State Fault Refusal :=
  asRequest src args (read src args) s

/-- QUERY (R185). -/
def execQuery (src : BitVec 6) (args : List Val) (s : State) : Host.Outcome State Fault Refusal :=
  asRequest src args (query src args) s

/-- START (R186). -/
def execStart (src : BitVec 6) (args : List Val) (s : State) : Host.Outcome State Fault Refusal :=
  asRequest src args (start src args) s

/-- STOP (R187). -/
def execStop (src : BitVec 6) (args : List Val) (s : State) : Host.Outcome State Fault Refusal :=
  asRequest src args (stop src args) s

/-- HOLD-ADD (R177). -/
def execHoldAdd (src : BitVec 6) (args : List Val) (s : State) : Host.Outcome State Fault Refusal :=
  asRequest src args (holdAdd src args) s

/-- HOLD-REMOVE (R177). -/
def execHoldRemove (src : BitVec 6) (args : List Val) (s : State) : Host.Outcome State Fault Refusal :=
  asRequest src args (holdRemove src args) s

/-- CLEAR-FAULTS (R169). -/
def execClearFaults (src : BitVec 6) (args : List Val) (s : State) : Host.Outcome State Fault Refusal :=
  asRequest src args (clearFaultsRequest src args) s

/-- CLEAR-COUNTERS (R8, R27, R34). -/
def execClearCounters (src : BitVec 6) (args : List Val) (s : State) : Host.Outcome State Fault Refusal :=
  asRequest src args (clearCounters src args) s

/-- RESET (R189). -/
def execReset (src : BitVec 6) (args : List Val) (s : State) : Host.Outcome State Fault Refusal :=
  asRequest src args (resetRequest src args) s

end Sys2Proof.Machine
end

