-- ==== Sys2Proof/Machine/Dispatch.lean ====
section
/-! DEFINITION. One arm per command, one direct call of its meaning per arm. -/

namespace Sys2Proof.Machine

/-- The effect of a command on everything but the queue of commands. -/
def exec (i : Instr) (s : State) : Host.Outcome State Fault Refusal :=
  match i with
  | .frameArrival port octets => Sys2Proof.Machine.execFrameArrival port octets s
  | .frameHandOn port => Sys2Proof.Machine.execFrameHandOn port s
  | .frameSent port => Sys2Proof.Machine.execFrameSent port s
  | .cycleStart => Sys2Proof.Machine.execCycleStart s
  | .linkFaultHeal port => Sys2Proof.Machine.execLinkFaultHeal port s
  | .signalStale index => Sys2Proof.Machine.execSignalStale index s
  | .signalHoldExpiry index => Sys2Proof.Machine.execSignalHoldExpiry index s
  | .standstillSet => Sys2Proof.Machine.execStandstillSet s
  | .rearTracking => Sys2Proof.Machine.execRearTracking s
  | .guardFall => Sys2Proof.Machine.execGuardFall s
  | .persistenceElapsed corner => Sys2Proof.Machine.execPersistenceElapsed corner s
  | .minimumPulse corner => Sys2Proof.Machine.execMinimumPulse corner s
  | .runTimeout corner => Sys2Proof.Machine.execRunTimeout corner s
  | .loweringTimeout => Sys2Proof.Machine.execLoweringTimeout s
  | .raisingTimeout => Sys2Proof.Machine.execRaisingTimeout s
  | .confirmTimeout => Sys2Proof.Machine.execConfirmTimeout s
  | .rampEnd => Sys2Proof.Machine.execRampEnd s
  | .brakeSaturated axle => Sys2Proof.Machine.execBrakeSaturated axle s
  | .openingTimeout door => Sys2Proof.Machine.execOpeningTimeout door s
  | .closingTimeout door => Sys2Proof.Machine.execClosingTimeout door s
  | .warningEnd door => Sys2Proof.Machine.execWarningEnd door s
  | .dwellEnd door => Sys2Proof.Machine.execDwellEnd door s
  | .loadAbandon => Sys2Proof.Machine.execLoadAbandon s
  | .edgeLineChange line high => Sys2Proof.Machine.execEdgeLineChange line high s
  | .edgeFilterExpiry line => Sys2Proof.Machine.execEdgeFilterExpiry line s
  | .powerOnReset straps => Sys2Proof.Machine.execPowerOnReset straps s
  | .loadBegin src args => Sys2Proof.Machine.execLoadBegin src args s
  | .loadData src args => Sys2Proof.Machine.execLoadData src args s
  | .loadEnd src args => Sys2Proof.Machine.execLoadEnd src args s
  | .swap src args => Sys2Proof.Machine.execSwap src args s
  | .select src args => Sys2Proof.Machine.execSelect src args s
  | .read src args => Sys2Proof.Machine.execRead src args s
  | .query src args => Sys2Proof.Machine.execQuery src args s
  | .start src args => Sys2Proof.Machine.execStart src args s
  | .stop src args => Sys2Proof.Machine.execStop src args s
  | .holdAdd src args => Sys2Proof.Machine.execHoldAdd src args s
  | .holdRemove src args => Sys2Proof.Machine.execHoldRemove src args s
  | .clearFaults src args => Sys2Proof.Machine.execClearFaults src args s
  | .clearCounters src args => Sys2Proof.Machine.execClearCounters src args s
  | .reset src args => Sys2Proof.Machine.execReset src args s
  | .doorRelease mask => Sys2Proof.Machine.execDoorRelease mask s
  | .doorClose mask => Sys2Proof.Machine.execDoorClose mask s
  | .kneelLower => Sys2Proof.Machine.execKneelLower s
  | .kneelRaise => Sys2Proof.Machine.execKneelRaise s
  | .driverHoldOn => Sys2Proof.Machine.execDriverHoldOn s
  | .driverHoldOff => Sys2Proof.Machine.execDriverHoldOff s

end Sys2Proof.Machine
end

