-- ==== Sys2Proof/Machine/Step.lean ====
section
/-! DEFINITION. One step: the command at the front of the queue; on an empty queue, 0.1 ms of the edge filters' time. -/

namespace Sys2Proof.Machine

/-- One step of the part. With a command waiting, the first is taken and worked with the rest of the queue. With none, the block
idles and the edge filters' own clock, which no command of the table ticks, counts one step of 0.1 ms (R160; assumption 12). -/
def step (s : State) : Host.Outcome State Fault Refusal :=
  match s.pending with
  | c :: rest => exec c (s.setPending rest)
  | [] => .next (filterTicks s)

/-- The state with the command a word spells put at the front of its queue; no word spells one, so the state is unchanged. -/
def State.withFetchWord (s : State) (nbits w : Nat) : State :=
  match decodeTableWord nbits w with
  | some c => s.setPending (c :: s.pending)
  | none => s

end Sys2Proof.Machine
end

