-- ==== Sys2Proof/Safety.lean ====
section
/-! DEFINITION. What the manual promises of the part at every moment, as conditions on one state, in the terms the claims use. -/

namespace Sys2Proof.Machine

/-! ### The ports -/

/-- A port's queues within their places: 16 received, 32 to send, at most 24 of them limited (R5, R15). -/
abbrev PortState.Bounded (p : PortState) : Prop := p.rx.length ≤ 16 ∧ p.tx.length ≤ 32 ∧ limitedHeld p.tx ≤ 24

/-- The frames of a receive queue that CLEAR-COUNTERS has not marked (R27). -/
def unmarked (q : List RxEntry) : Nat := (q.filter (fun e => !e.marked)).length

/-- The sum of a port's eight classifier counters, modulo 2^32 (R28). -/
def ClassCounters.total (c : ClassCounters) : Counter :=
  c.consumed + c.requested + c.forwarded + c.management + c.unrouted + c.gated + c.misdirected + c.dropped

/-- The route conservation law of a port (R28). -/
abbrev PortState.Conserved (p : PortState) : Prop := p.ctr.accepted = p.cls.total + BitVec.ofNat 32 (unmarked p.rx)

/-- Both ports' queues within their places. -/
abbrev State.QueuesBounded (s : State) : Prop := s.vehicle.Bounded ∧ s.chassis.Bounded

/-- The route conservation law at both ports (R28). -/
abbrev State.FramesConserved (s : State) : Prop := s.vehicle.Conserved ∧ s.chassis.Conserved

/-- What notices alone do to a port: frames join the end of its transmit queue, or are counted as notice drops (R15). -/
abbrev PortState.OnlyOffered (x y : PortState) : Prop :=
  x.tx <+: y.tx ∧ y = { x with tx := y.tx, ctr := { x.ctr with noticeDrops := y.ctr.noticeDrops } }

/-- Between two states the part has sent notices and nothing else: the vehicle port and the sequence counters change by notices
alone (R13, R15). -/
abbrev State.OnlyNotices (s t : State) : Prop :=
  s.vehicle.OnlyOffered t.vehicle ∧ t.seq = { s.seq with notice := t.seq.notice }

/-! ### The fault unit -/

/-- The pair an entry stands for (9.1). -/
def FaultEntry.pair (e : FaultEntry) : FaultCode × Nat := (e.code, e.subject)

/-- The fault list holds at most 32 entries, no pair twice; the levels and the lamps are those the list gives (R165, R172,
R173). -/
abbrev State.FaultsSound (s : State) : Prop :=
  s.faults.list.length ≤ 32 ∧ (s.faults.list.map FaultEntry.pair).Nodup ∧ s.faults.levels = levelsOf s.faults.list
    ∧ s.faults.amber = anyActive s.faults.list ∧ s.faults.red = anyRed s.faults.list

/-- Every entry of a latched code is ACTIVE: a cause that ends leaves it so, and CLEAR-FAULTS takes it out of the list (R168,
R169). -/
abbrev State.LatchedActive (s : State) : Prop := ∀ e ∈ s.faults.list, e.code.latched = true → e.active = true

/-- The fault list holds an ACTIVE entry of a code and subject (9.1). -/
abbrev State.faultActive (s : State) (c : FaultCode) (subject : Nat) : Prop :=
  ∃ e ∈ s.faults.list, e.code = c ∧ e.subject = subject ∧ e.active = true

/-- Every entry of a code and subject in the fault list has its cause ENDED (9.1). -/
abbrev State.causeEnded (s : State) (c : FaultCode) (subject : Nat) : Prop :=
  ∀ e ∈ s.faults.list, e.code = c → e.subject = subject → e.present = false ∨ e.active = false

/-! ### The hold -/

/-- The hold set holds each holder at most once, and the drive inhibit is on exactly while it holds a claim (R119, R133). -/
abbrev State.HoldSound (s : State) : Prop :=
  (s.holdSet.map Claim.holder).Nodup ∧ s.drive.inhibit = !s.holdSet.isEmpty

/-- Whenever a door record is in any state other than LOCKED, the hold set holds that door's claim (R145). -/
abbrev State.DoorsHeld (s : State) : Prop := ∀ d : Fin 4, (s.door d).state ≠ .locked → s.claims (.door d) = true

/-- While the kneel state is other than LEVEL, the hold set holds the KNEEL claim (R106). -/
abbrev State.KneelHeld (s : State) : Prop := s.kneel.state ≠ .level → s.claims .kneel = true

/-! ### The tables -/

/-- The size of a bank is one that LOAD-END accepts (R181 test 2, 11.6). -/
def sizeOk (t : Fin 9) (vals : List Val) : Bool := decide (vals.length ≤ capacity t) && !countWrong t vals.length vals.length

/-- A bank's values are ones that LOAD-END takes as COMPLETE (R181). -/
abbrev BankSound (t : Fin 9) (vals : List Val) : Prop := sizeOk t vals = true ∧ contentCheck t vals = none

/-- One table: what is in use and what may come into use passed the checks of LOAD-END; a pending swap waits on a COMPLETE shadow
bank (R181, R182, R183). -/
abbrev TableSound (t : Fin 9) (x : Table) : Prop :=
  (x.valid = true → BankSound t x.active) ∧ (x.shadowState = .complete → BankSound t x.shadow)
    ∧ (x.pendingSwap = true → x.shadowState = .complete)

/-- The table that is loading stands in LOADING, within its capacity (R179, R180). -/
def State.loadSound (s : State) : Bool :=
  match s.loading with
  | some l => decide ((s.tab l.table).shadowState = .loading) && decide ((s.tab l.table).shadow.length ≤ capacity l.table)
  | none => true

/-- Every table sound, and the load state with them. -/
abbrev State.TablesSound (s : State) : Prop := (∀ t : Fin 9, TableSound t (s.tab t)) ∧ s.loadSound = true

/-! ### The part states -/

/-- Outside CONFIG every table is in use (R186: START needs all nine VALID) and the rear axle is not PARKED. In CONFIG the records
of the jobs rest at their values there: rear axle PARKED with its command kept, joint, air, corners, hold and axle pressures at
reset, the kneel LEVEL with its last refusal kept, the torque limit 1000 (R49, R64, R80, R103, R122, R134, R135). -/
abbrev State.RunSound (s : State) : Prop :=
  (s.part ≠ .config → (∀ t : Fin 9, s.tableValid t = true) ∧ s.rear.state ≠ .parked)
    ∧ (s.part = .config →
      s.rear = { s.rear with state := .parked, target := 0, trackTimer := 0, latch := false } ∧ s.joint = Joint.reset
      ∧ s.air = Air.reset ∧ s.corners = Vector.replicate 6 Corner.reset
      ∧ s.kneel = { Kneel.reset with lastRefusal := s.kneel.lastRefusal } ∧ s.hold = Hold.reset ∧ s.axle = AxlePressure.reset
      ∧ s.drive.torque = 1000)

/-! ### The rear axle -/

/-- The rear-steer target and command within 2000 in magnitude (R55, R59). -/
abbrev State.RearBounded (s : State) : Prop :=
  -2000 ≤ s.rear.target ∧ s.rear.target ≤ 2000 ∧ -2000 ≤ s.rear.command ∧ s.rear.command ≤ 2000

/-! ### The fill slots -/

/-- No more corners fill than the active T5 gives slots, none in CONFIG, and each only as the air level and the height level
permit its class (R80, R85, R96). -/
abbrev State.SlotsSound (s : State) : Prop :=
  (slotsHeld s : Int) ≤ s.param 5 19
    ∧ ∀ c : Fin 6, (s.corner c).valve = .filling → s.part ≠ .config ∧ fillPermitted s (s.corner c).cls = true

/-! ### What the rules give at a moment -/

/-- The rear-steer target is the one of R52: 0 under its conditions, else the map's at the speed and the two angles (an unusable
REAR-ACTUAL is none of the conditions: assumption 45). -/
abbrev State.TargetFollows (s : State) : Prop :=
  s.rear.target =
    if s.rear.latch = true ∨ s.faults.levels.steering ≠ .full ∨ s.usable .frontAngle = false ∨ s.usable .jointAngle = false
        ∨ s.motion.status = .lost then 0
    else mapTarget (s.param 3) s.motion.speed (s.value .frontAngle) (s.value .jointAngle)

/-- The rear-steer state is the one of the first line of the table of R58 that holds. -/
abbrev State.SteeringResolved (s : State) : Prop :=
  s.rear.state =
    if s.faults.levels.steering = .safe ∨ s.usable .rearActual = false then .locked
    else if ∃ d : Fin 4, (s.door d).state ≠ .locked then .frozen
    else if s.rear.latch = true ∨ s.faults.levels.steering = .reduced ∨ s.usable .frontAngle = false
        ∨ s.usable .jointAngle = false ∨ s.motion.status = .lost then
      if s.rear.command = 0 then .locked else .centering
    else .active

/-- Damper command and mode follow R69, the torque limit the table of R75. -/
abbrev State.JointFollows (s : State) : Prop :=
  (s.usable .jointAngle = false ∨ s.faults.levels.joint = .safe → s.joint.damper = s.param 4 28 ∧ s.joint.mode = .stiff)
    ∧ (s.usable .jointAngle = true → s.faults.levels.joint ≠ .safe →
      s.joint.mode = .normal
      ∧ s.joint.damper = damperPressure s
        (if s.motion.status = .lost ∨ s.faults.levels.joint = .reduced then greatestGain s else damperGain s s.motion.speed))
    ∧ s.joint.torque =
      if s.usable .jointAngle = false ∨ s.motion.status = .lost ∨ s.faults.levels.joint ≠ .full then s.param 4 35
      else if s.joint.guard = 2 then s.param 4 34 else if s.joint.guard = 1 then s.param 4 33 else 1000

/-- The driver deceleration in use is the one of R136. -/
abbrev State.DecelFollows (s : State) : Prop :=
  s.axle.decel =
    if s.usable .driverDecel = true ∧ s.param 6 1 < clamp 0 (s.param 6 0) (s.value .driverDecel) then
      clamp 0 (s.param 6 0) (s.value .driverDecel)
    else 0

/-- The axle pressures and the hold flag are those that R137 gives for the demands as they stand. -/
abbrev State.AxlesResolved (s : State) : Prop :=
  (∀ a : Fin 3, s.axle.driver[a] = driverPressure s a
      ∧ s.axle.pressure[a] = min (max (max (driverPressure s a) (holdTerm s a)) (guardTerm s a)) (s.param 6 (11 + a.val)))
    ∧ (s.axle.holdFlag = true ↔ s.hold.state = .applying ∨ s.hold.state = .confirmed ∨ s.hold.state = .releasing)

/-- The state of a door that has come to RELEASE-WAIT (R150): with the bus at standstill, the hold CONFIRMED and the gate of the
active T7 met, it goes on by its release mode; else it waits. -/
def State.afterWait (s : State) (d : Fin 4) : DoorState :=
  if s.motion.standstill = true ∧ s.hold.state = .confirmed
      ∧ gateSatisfied (s.raw 7 (11 * d.val + 1)) (s.raw 7 (11 * d.val + 2)) s = true then
    match (s.door d).mode with
    | .cabOpen => .opening
    | .passenger => .released
  else .releaseWait

/-- An axle's load is estimated from its two load pressures where both corners' records are usable and have taken one, else it is
the fallback load (R100). -/
abbrev State.LoadFollows (s : State) (a : Fin 3) : Prop :=
  s.loads[a] =
    match (s.corner (leftCorner a)).loadPressure, (s.corner (rightCorner a)).loadPressure with
    | some l, some r =>
      if s.usable (.bellows (leftCorner a)) = true ∧ s.usable (.bellows (rightCorner a)) = true then
        { load := clamp (s.param 5 (26 + a.val)) (s.param 5 (29 + a.val))
            (s.param 5 (20 + a.val) + (l + r) * s.param 5 (23 + a.val) / 100)
          status := .estimated }
      else { load := s.param 5 (29 + a.val), status := .fallback }
    | some _, none => { load := s.param 5 (29 + a.val), status := .fallback }
    | none, _ => { load := s.param 5 (29 + a.val), status := .fallback }

/-! ### When an internal event is due -/

/-- The guard watches the joint (R71): speed VALID, standstill clear, the angle usable and the joint level FULL. -/
abbrev State.GuardWatches (s : State) : Prop :=
  s.motion.status = .valid ∧ s.motion.standstill = false ∧ s.usable .jointAngle = true ∧ s.faults.levels.joint = .full

/-- The fall condition of the present guard level (R73): at 2 the angle below γmax(v) + level-2 margin − guard hysteresis, and the
rate not driving it up by more than the level-2 rate; at 1 the angle below γmax(v) − guard hysteresis. -/
abbrev State.GuardFallMet (s : State) : Prop :=
  let angle := s.value .jointAngle
  let greatest := interpolateAt (s.param 4) (fun i => s.param 4 (18 + i)) s.motion.speed
  let folding := (0 < angle ∧ 0 < s.joint.rate ∨ angle < 0 ∧ s.joint.rate < 0) ∧ s.param 4 30 < mag s.joint.rate
  s.joint.guard = 2 ∧ mag angle < greatest + s.param 4 29 - s.param 4 31 ∧ ¬ folding
    ∨ s.joint.guard = 1 ∧ mag angle < greatest - s.param 4 31

/-- The count of a cycle start brings the tracking timer to the track time (R62). -/
abbrev State.TrackingElapses (s : State) : Prop :=
  s.rear.state ≠ .parked ∧ s.faults.levels.steering ≠ .safe ∧ s.usable .rearActual = true
    ∧ s.param 3 201 < mag (s.value .rearActual - s.rear.command) ∧ s.param 3 202 ≤ ((s.rear.trackTimer + 1 : Nat) : Int)

/-- A corner with no freeze cause (R87). -/
abbrev State.Unfrozen (s : State) (c : Fin 6) : Prop :=
  (s.corner c).frozenHeight = false ∧ (s.corner c).frozenTimeout = false ∧ (s.corner c).frozenKneel = false

/-- The persistence direction a corner's error asks for in motion (R90). -/
def State.askedDir (s : State) (c : Fin 6) : PersistDir :=
  if s.param 5 12 < (s.corner c).error then .up else if (s.corner c).error < -s.param 5 12 then .down else .none

/-- The count of a cycle start brings a corner's persistence to the persistence time (R90, R91, R92): a settled corner in HOLD, not
frozen, on a moving bus whose levelling is not suspended, under no kneel, outside the moving deadband. -/
abbrev State.PersistenceElapses (s : State) (c : Fin 6) : Prop :=
  let k := s.corner c
  let kneels := (s.raw 5 9).getLsbD c.val = true
    ∧ (s.kneel.state = .lowering ∨ s.kneel.state = .knelt ∨ s.kneel.state = .raising)
  s.part ≠ .config ∧ k.valve = .hold ∧ k.settle = 0 ∧ s.Unfrozen c ∧ s.motion.standstill = false ∧ ¬ kneels
    ∧ s.usable .frontAngle = true ∧ mag (s.value .frontAngle) ≤ s.param 5 14
    ∧ s.tableValid 4 = true ∧ s.usable .jointAngle = true ∧ mag (s.value .jointAngle) ≤ s.param 4 37
    ∧ ¬ (s.tableValid 6 = true ∧ 0 < s.axle.decel)
    ∧ s.askedDir c ≠ .none ∧ s.param 5 13 ≤ if k.dir = s.askedDir c then ((k.persist + 1 : Nat) : Int) else 1

/-- The count of a cycle start ends a corner's run (R94): in its band, with the minimum pulse run. -/
abbrev State.PulseElapses (s : State) (c : Fin 6) : Prop :=
  let k := s.corner c
  let half := s.param 5 11 / 2
  s.part ≠ .config ∧ s.Unfrozen c ∧ (k.valve = .filling ∧ k.error ≤ half ∨ k.valve = .exhausting ∧ -half ≤ k.error)
    ∧ s.param 5 15 ≤ ((k.pulse + 1 : Nat) : Int)

/-- The count of a cycle start takes a corner's run, which the end test leaves, past its timeout (R95). -/
abbrev State.RunTimesOut (s : State) (c : Fin 6) : Prop :=
  let k := s.corner c
  let counted : Int := ((k.run + 1 : Nat) : Int)
  s.part ≠ .config ∧ s.Unfrozen c ∧ ¬ s.PulseElapses c
    ∧ (k.valve = .filling ∧ s.param 5 17 < counted ∨ k.valve = .exhausting ∧ s.param 5 18 < counted)

/-! ### Requests as commands -/

/-- The command that a management request's tag spells (11.2). -/
def requestOf (src : BitVec 6) (args : List Val) : Nat → Option Instr
  | 32 => some (.loadBegin src args) | 33 => some (.loadData src args) | 34 => some (.loadEnd src args)
  | 35 => some (.swap src args) | 36 => some (.select src args) | 37 => some (.read src args)
  | 38 => some (.query src args) | 39 => some (.start src args) | 40 => some (.stop src args)
  | 41 => some (.holdAdd src args) | 42 => some (.holdRemove src args) | 43 => some (.clearFaults src args)
  | 44 => some (.clearCounters src args) | 45 => some (.reset src args) | _ => none

/-- The command that a cab request's tag spells, with its first value as the mask (11.2, R148, R153). -/
def cabOf (values : List Val) : Nat → Option Instr
  | 16 => some (.doorRelease (values.getD 0 0#16)) | 17 => some (.doorClose (values.getD 0 0#16))
  | 18 => some .kneelLower | 19 => some .kneelRaise | 20 => some .driverHoldOn | 21 => some .driverHoldOff | _ => none

/-! ### What the signal store reports -/

/-- A frame of a port's receive queue is a SAMPLE whose first matching entry is CONSUME (R20 to R22). -/
def State.consumes (s : State) (p : Port) (f : Frame) : Prop :=
  f.kind = .sample ∧ s.tableValid 0 = true
    ∧ ∃ r, (routeEntries (s.tab 0).active).find? (fun a => a.matchesFrame p f) = some r ∧ r.action = 0

/-- What a SAMPLE frame does to the records of the definitions, in index order (R35 to R38). -/
def State.sampleChanges (s : State) (f : Frame) : List SigChange := s.sigDefs.zipIdx.map (fun (d, i) => frameChange f s d i)

/-- The port's record with its head frame gone from the receive queue and counted as consumed (R5, R22, R27). -/
def PortState.consumed (x : PortState) (e : RxEntry) (rest : List RxEntry) : PortState :=
  { x with rx := rest, cls := { x.cls with consumed := x.cls.consumed + if e.marked = true then 0 else 1 } }

/-- The state with a batch of changes in the records and the notices of R42 sent, before any reader acts. -/
def State.store (s : State) (l : List SigChange) : State := l.foldl (fun x c => signalNotice c x) (storeChanges l s)

/-- A command whose work at the signal store is a batch of reports to the readers (R39): FRAME_HAND_ON of a SAMPLE that is
consumed, SIGNAL_STALE of a FRESH record that the count makes stale, SIGNAL_HOLD_EXPIRY of a HELD record that it makes LOST. The
list holds the reports, the last argument is the state before the first reader acts. -/
inductive Reported (s : State) : Instr → List SigReport → State → Prop where
  | sample (p : Port) (e : RxEntry) (rest : List RxEntry) : (s.port p).rx = e :: rest → s.consumes p e.frame →
      Reported s (.frameHandOn p) (reportsOf (s.sampleChanges e.frame))
        ((s.setPort p ((s.port p).consumed e rest)).store (s.sampleChanges e.frame))
  | stale (i : Fin 96) (d : SigDef) : s.sigDefs[i.val]? = some d → s.signals[i].status = .fresh →
      (s.signals[i].aged d).status ≠ .fresh →
      Reported s (.signalStale i) (reportsOf [ageChange s d i.val]) (s.store [ageChange s d i.val])
  | expiry (i : Fin 96) (d : SigDef) : s.sigDefs[i.val]? = some d → s.signals[i].status = .held →
      (s.signals[i].aged d).status = .lost →
      Reported s (.signalHoldExpiry i) (reportsOf [ageChange s d i.val]) (s.store [ageChange s d i.val])

/-! ### A safe state -/

/-- Every promise above. -/
abbrev State.Safe (s : State) : Prop :=
  s.QueuesBounded ∧ s.FramesConserved ∧ s.FaultsSound ∧ s.LatchedActive ∧ s.HoldSound ∧ s.DoorsHeld ∧ s.KneelHeld
    ∧ s.TablesSound ∧ s.RunSound ∧ s.RearBounded ∧ s.SlotsSound

end Sys2Proof.Machine
end

