-- ==== Sys2Proof/Certificates/Slice0/Obligations.lean ====
section
/-! DEFINITION. The statements for the provers, each a proposition about the part; OBLIGATIONS.json gives their titles and the
rules they rest on. "Answers" means that exec gives a next state. -/

open Sys2Proof Sys2Proof.Machine

/-! ### The queue of commands and the resets -/

/-- A step with a command at the front of the queue is exec of that command on the state with the rest of the queue. -/
def Obligations.StepRunsFront : Prop :=
  ∀ (c : Instr) (rest : List Instr) (s : State), step (s.setPending (c :: rest)) = exec c (s.setPending rest)

/-- A step on an empty queue, when no edge filter reaches its filter time by it, raises the timer of each running filter of a
watched line by one and changes nothing else. The model's choice (assumption 12). -/
def Obligations.StepIdleCountsFilters : Prop :=
  ∀ s : State, s.pending = [] →
    (∀ d : Fin 4, s.tableValid 7 = true → s.edges[d].running = true →
      ((s.edges[d].timer + 1 : Nat) : Int) < s.param 7 (11 * d.val + 10)) →
    step s = .next (s.setEdges (Vector.ofFn fun d : Fin 4 =>
      if s.tableValid 7 = true ∧ s.edges[d].running = true then { s.edges[d] with timer := s.edges[d].timer + 1 }
      else s.edges[d]))

/-- The state after reset, record by record. The station 1 and the straps behind it are the model's choice (assumption 8), and so
are the edge lines' levels and filters (assumption 9). -/
def Obligations.ResetValues : Prop :=
  State.reset.pending = [] ∧ State.reset.station = 1#6
  ∧ State.reset.vehicle.rx = [] ∧ State.reset.vehicle.score = 0 ∧ State.reset.vehicle.linkFault = false
  ∧ State.reset.vehicle.tx.map (fun e => (e.frame.tag, e.frame.values.map BitVec.toInt)) = [(170#8, [2, 0, -32768, 3])]
  ∧ State.reset.chassis = { State.reset.vehicle with tx := [] }
  ∧ State.reset.vehicle.ctr = PortCounters.zero ∧ State.reset.vehicle.cls = ClassCounters.zero
  ∧ State.reset.cycle = 0 ∧ State.reset.trim = 0
  ∧ (∀ r : Fin 7, State.reset.seq.command[r] = 0#4) ∧ (∀ r : Fin 50, State.reset.seq.reply[r] = 0#4)
  ∧ (∀ k : Fin 14, State.reset.seq.notice[k] = if k = 10 then 1#4 else 0#4)
  ∧ (∀ i : Fin 96, State.reset.signals[i] =
      { value := 0, lastRaw := 0, age := 0, status := .never, clamp := false, lastSeq := 0, duplicates := 0, skips := 0
        notAvail := 0, shorts := 0 })
  ∧ State.reset.motion = { speed := 0, status := .lost, standstill := false, timer := 0 }
  ∧ State.reset.rear = { target := 0, command := 0, state := .parked, trackTimer := 0, latch := false }
  ∧ State.reset.joint =
      { history := [], rate := 0, damper := 0, mode := .normal, guard := 0, guardTimer := 0, torque := 1000 }
  ∧ State.reset.air = { pressure := 0, level := .unknown }
  ∧ (∀ c : Fin 6, State.reset.corners[c] =
      { height := 0, target := 0, error := 0, valve := .hold, cls := .two, frozenHeight := false, frozenTimeout := false
        frozenKneel := false, settle := 0, pulse := 0, run := 0, runStart := 0, persist := 0, dir := .none
        loadPressure := none })
  ∧ (∀ a : Fin 3, State.reset.loads[a] = { load := 20000, status := .fallback })
  ∧ State.reset.kneel = { state := .level, timer := 0, timeoutFlag := false, lastRefusal := .none }
  ∧ State.reset.holdSet = [⟨.startup, 0⟩, ⟨.door 0, 0⟩, ⟨.door 1, 0⟩, ⟨.door 2, 0⟩, ⟨.door 3, 0⟩]
  ∧ State.reset.hold = { state := .pending, pressure := 0, confirmTimer := 0, timeoutFlag := false }
  ∧ State.reset.drive = { inhibit := true, torque := 1000 }
  ∧ State.reset.axle.decel = 0 ∧ State.reset.axle.backup = false ∧ State.reset.axle.holdFlag = false
  ∧ (∀ a : Fin 3, State.reset.axle.pressure[a] = 0 ∧ State.reset.axle.driver[a] = 0 ∧ State.reset.axle.satTimer[a] = 0)
  ∧ (∀ d : Fin 4, State.reset.doors[d] =
      { state := .unknown, position := .none, pendingRelease := false, mode := .cabOpen, timer := 0, reversals := 0
        closeDeferred := false, lastButton := false, lastHandle := false, tone := false })
  ∧ (∀ d : Fin 4, State.reset.edges[d] = { high := true, filtered := false, running := false, timer := 0 })
  ∧ State.reset.faults =
      { list := [], overflow := 0, levels := { steering := .full, joint := .full, height := .full, brake := .full }
        amber := false, red := false }
  ∧ (∀ t : Fin 9, State.reset.tables[t] =
      { valid := false, active := [], shadowState := .empty, shadow := [], errorIndex := 0, pendingSwap := false })
  ∧ State.reset.loading = none ∧ State.reset.cursor = none ∧ State.reset.part = .config ∧ State.reset.resetPending = none

/-- Every promise that the invariants below carry holds after reset. -/
def Obligations.ResetIsSafe : Prop := State.reset.Safe

/-- POWER_ON_RESET answers, whatever the state before. With straps 1..62 the strapped number is the station code and the PART-STATE
notice is all that is queued; with 0 or 63 the code is 62 and STRAP is the one entry of the fault list. The filters' level while T7
is EMPTY is the model's choice (assumption 9). -/
def Obligations.PowerOnResets : Prop :=
  ∀ (straps : BitVec 6) (s : State),
    (straps ≠ 0#6 ∧ straps ≠ 63#6 →
      exec (.powerOnReset straps) s = .next
        { State.reset with
          pending := s.pending, free := s.free, straps := straps, station := straps
          vehicle := { PortState.reset with
            tx := [{ frame := buildFrame straps 63#6 .notice 170#8 0#4 [toVal 2, toVal 0, notAvailable, toVal 3]
                     cls := .limited, resetReply := false }] }
          edges := Vector.ofFn fun d : Fin 4 =>
            { high := s.edges[d].high, filtered := false, running := false, timer := 0 } })
    ∧ (straps = 0#6 ∨ straps = 63#6 →
      ∃ t, exec (.powerOnReset straps) s = .next t
        ∧ t.faults.list = [{ code := .strap, subject := 0, active := true, present := true, count := 1, first := 0, last := 0 }]
        ∧ t.faults.overflow = 0 ∧ t.faults.levels = Levels.full ∧ t.faults.amber = true ∧ t.faults.red = false
        ∧ (t.vehicle.tx.map (fun e => e.frame.tag) = [170#8, 160#8] ∨ t.vehicle.tx.map (fun e => e.frame.tag) = [160#8, 170#8])
        ∧ t = { State.reset with
            pending := s.pending, free := s.free + 1, straps := straps, station := 62#6, vehicle := t.vehicle, seq := t.seq
            faults := t.faults
            edges := Vector.ofFn fun d : Fin 4 =>
              { high := s.edges[d].high, filtered := false, running := false, timer := 0 } })

/-- FRAME_SENT of the head of a transmit queue answers. With no reset waiting on it, the frame leaves the queue, the transmitted
counter is raised, and nothing else changes. Of the reply to an accepted RESET, it answers with the reset in effect: a soft reset
keeps the station code and the tables; a hard one reads the straps, which give the code and STRAP, and empties the tables; both
empty the queues and set the records to their reset values, the axle loads at the fallback load and the trim from the tables that
are left, the sequence counters 0 but for the notices of the reset itself, which alone stand in the vehicle queue. That the chassis
port goes on sending while a reset waits is the model's choice (assumption 68). What setting a hard reset reads is left open
(assumption 19), and so is the order of STRAP and PART-STATE (assumption 2). -/
def Obligations.FrameSentTaken : Prop :=
  ∀ (p : Port) (e : TxEntry) (rest : List TxEntry) (s : State), (s.port p).tx = e :: rest →
    ((e.resetReply = false ∨ s.resetPending = none) →
      exec (.frameSent p) s = .next (s.setPort p
        { s.port p with
          tx := rest, ctr := { (s.port p).ctr with transmitted := (s.port p).ctr.transmitted + 1 } }))
    ∧ ∀ k : ResetKind, e.resetReply = true → s.resetPending = some k →
      ∃ t, exec (.frameSent p) s = .next t
        ∧ (match k with
          | .soft => t.straps = s.straps ∧ t.station = s.station ∧ t.tables = s.tables.map Table.soft
              ∧ t.faults = FaultUnit.reset
          | .hard => t.station = (if t.straps = 0#6 ∨ t.straps = 63#6 then 62#6 else t.straps)
              ∧ t.tables = Vector.replicate 9 Table.empty
              ∧ (t.faultActive .strap 0 ↔ t.straps = 0#6 ∨ t.straps = 63#6) ∧ ∀ e ∈ t.faults.list, e.code = .strap)
        ∧ (let strapBad := k = .hard ∧ (t.straps = 0#6 ∨ t.straps = 63#6)
          let kept := fun x : Fin 9 => k = .soft ∧ s.tableValid x = true
          let silent := kept 8 ∧ s.param 8 13 = 0
          let tags := t.vehicle.tx.map (fun x => x.frame.tag);
          (∀ a : Fin 3, t.loads[a] = { load := if kept 5 then s.param 5 (29 + a.val) else 20000, status := .fallback })
          ∧ t.trim = (if kept 8 then s.param 8 1 else 0)
          ∧ t.seq.command = Vector.replicate 7 0 ∧ t.seq.reply = Vector.replicate 50 0
          ∧ (∀ n : Fin 14, t.seq.notice[n] = if n = 0 ∧ strapBad ∨ n = 10 ∧ ¬ silent then 1 else 0)
          ∧ (strapBad → tags = [160#8, 170#8] ∨ tags = [170#8, 160#8])
          ∧ (¬ strapBad → tags = if silent then [] else [170#8])
          ∧ (∀ d : Fin 4, t.edges[d] =
            { high := s.edges[d].high, running := false, timer := 0
              filtered :=
                if kept 7 then (if s.param 7 (11 * d.val + 8) = 0 then s.edges[d].high else !s.edges[d].high) else false }))
        ∧ t.chassis = PortState.reset ∧ { t.vehicle with tx := [] } = PortState.reset ∧ t.pending = s.pending
        ∧ t.cycle = 0 ∧ t.signals = Vector.replicate 96 SigRec.reset ∧ t.motion = Motion.reset ∧ t.rear = RearSteer.reset
        ∧ t.joint = Joint.reset ∧ t.air = Air.reset ∧ t.corners = Vector.replicate 6 Corner.reset ∧ t.kneel = Kneel.reset
        ∧ t.holdSet = resetClaims ∧ t.hold = Hold.reset ∧ t.drive = Drive.reset ∧ t.axle = AxlePressure.reset
        ∧ t.doors = Vector.replicate 4 Door.reset ∧ t.part = .config ∧ t.loading = none ∧ t.cursor = none
        ∧ t.resetPending = none

/-! ### Frames -/

/-- Reading the octets of a frame gives the frame back, with every field at every value a frame may carry; and the check of a frame
that the part builds passes the check test. -/
def Obligations.FrameRoundTrip : Prop :=
  ∀ f : Frame, f.src ≠ 0#6 → f.src ≠ 63#6 → f.dst ≠ 0#6 → 1 ≤ f.values.length → f.values.length ≤ 6 →
    parseFrame f.octets = some f
    ∧ (f.check = crc (bodyOctets f.src f.dst f.kind f.tag f.seq f.values) → checkOk f.octets = true)

/-- FRAME_ARRIVAL answers. A frame that passes the three tests is counted and queued at the tail; one that finds 16 frames is
counted as an overrun; one that fails the check or the format test is counted there and raises the error score by 8, up to 255, and
with the flag clear and the score at the threshold the flag is set and the link fault listed, with its FAULT notice; nothing else
changes at either port. -/
def Obligations.FrameArrivalJudged : Prop :=
  ∀ (p : Port) (octets : List Byte) (s : State),
    let x := s.port p
    let score := min 255 (x.score + 8)
    let threshold : Int := if s.tableValid 8 = true then s.param 8 0 else 128
    let ctr := if checkOk octets = false then { x.ctr with checkErrors := x.ctr.checkErrors + 1 }
      else { x.ctr with formatErrors := x.ctr.formatErrors + 1 }
    (∀ f : Frame, checkOk octets = true → parseFrame octets = some f →
      exec (.frameArrival p octets) s = .next (s.setPort p
        (if x.rx.length < 16 then
          { x with rx := x.rx ++ [{ frame := f, marked := false }], ctr := { x.ctr with accepted := x.ctr.accepted + 1 } }
        else { x with ctr := { x.ctr with overruns := x.ctr.overruns + 1 } })))
    ∧ (checkOk octets = false ∨ parseFrame octets = none →
      ((x.linkFault = true ∨ (score : Int) < threshold) →
        exec (.frameArrival p octets) s = .next (s.setPort p { x with score := score, ctr := ctr }))
      ∧ (x.linkFault = false → threshold ≤ (score : Int) → s.FaultsSound → s.faults.list.length < 32 →
        ∃ t, exec (.frameArrival p octets) s = .next t
          ∧ t = listFault (match p with | .vehicle => .linkV | .chassis => .linkC) (portIndex p)
              (s.setPort p { x with score := score, linkFault := true, ctr := ctr })
          ∧ t.faultActive (match p with | .vehicle => .linkV | .chassis => .linkC) (portIndex p)
          ∧ (t.port p).score = score ∧ (t.port p).linkFault = true ∧ (t.port p).rx = x.rx ∧ (t.port p).cls = x.cls
          ∧ { (t.port p).ctr with noticeDrops := x.ctr.noticeDrops } = ctr
          ∧ (p = .vehicle → t.chassis = s.chassis)
          ∧ (p = .chassis → t.chassis.tx = s.chassis.tx ∧ t.chassis.ctr = ctr
            ∧ t.vehicle = { s.vehicle with tx := t.vehicle.tx, ctr := t.vehicle.ctr }
            ∧ t.vehicle.ctr = { s.vehicle.ctr with noticeDrops := t.vehicle.ctr.noticeDrops })
          ∧ t = { s with vehicle := t.vehicle, chassis := t.chassis, seq := t.seq, faults := t.faults }))

/-- FRAME_HAND_ON of a management request for the part: from the vehicle port it is the request carried out, the management counter
raised, or a REFUSED UNKNOWN-REQUEST reply where the tag names none; from the chassis port it is dropped as misdirected. A frame
that meets no entry, or any frame while T0 is EMPTY, is dropped as unrouted. A marked frame raises no counter. That the counter
is raised before the request is carried out is the model's choice (assumption 44). -/
def Obligations.HandOnBypassAndUnrouted : Prop :=
  ∀ (p : Port) (e : RxEntry) (rest : List RxEntry) (s : State), (s.port p).rx = e :: rest →
    let x := s.port p
    let n : Counter := if e.marked = true then 0 else 1
    (e.frame.kind = .mgmtReq → e.frame.dst = s.station → p = .vehicle →
      (∀ i : Instr, requestOf e.frame.src e.frame.values e.frame.tag.toNat = some i → requestOk e.frame.src e.frame.values = true →
        exec (.frameHandOn p) s
          = exec i (s.setPort p { x with rx := rest, cls := { x.cls with management := x.cls.management + n } }))
      ∧ (requestOf e.frame.src e.frame.values e.frame.tag.toNat = none →
        exec (.frameHandOn p) s = .next (sendReply e.frame.src 15
          [toVal e.frame.tag.toNat, if s.resetPending.isSome = true then 4#16 else 0#16] false
          (s.setPort p { x with rx := rest, cls := { x.cls with management := x.cls.management + n } }))))
    ∧ (e.frame.kind = .mgmtReq → e.frame.dst = s.station → p = .chassis →
      exec (.frameHandOn p) s
        = .next (s.setPort p { x with rx := rest, cls := { x.cls with misdirected := x.cls.misdirected + n } }))
    ∧ ((e.frame.kind ≠ .mgmtReq ∨ e.frame.dst ≠ s.station) →
      (s.tableValid 0 = false ∨ ∀ r ∈ routeEntries (s.tab 0).active, r.matchesFrame p e.frame = false) →
      exec (.frameHandOn p) s
        = .next (s.setPort p { x with rx := rest, cls := { x.cls with unrouted := x.cls.unrouted + n } }))

/-- FRAME_HAND_ON of a frame whose first matching entry is FORWARD, or FORWARD-IF with its gate satisfied: counted as forwarded at
its port and offered unchanged to the other port as a limited frame. With the gate not satisfied it is dropped and counted as gated;
with DROP it is dropped and counted as dropped. -/
def Obligations.HandOnForwardedOrDropped : Prop :=
  ∀ (p q : Port) (e : RxEntry) (rest : List RxEntry) (r : RouteEntry) (s : State), q = otherPort p →
    (s.port p).rx = e :: rest → (e.frame.kind ≠ .mgmtReq ∨ e.frame.dst ≠ s.station) → s.tableValid 0 = true →
    (routeEntries (s.tab 0).active).find? (fun a => a.matchesFrame p e.frame) = some r →
    let x := s.port p
    let y := s.port q
    let n : Counter := if e.marked = true then 0 else 1
    let open? := ∀ k : Fin 16, (r.requireTrue.getLsbD k.val = true → predicate s k.val = true)
      ∧ (r.requireFalse.getLsbD k.val = true → predicate s k.val = false)
    ((r.action = 2 ∨ r.action = 3 ∧ open?) →
      exec (.frameHandOn p) s = .next
        ((s.setPort p { x with rx := rest, cls := { x.cls with forwarded := x.cls.forwarded + n } }).setPort q
          (if y.tx.length < 32 ∧ (y.tx.filter (fun a => a.cls == .limited)).length < 24 then
            { y with tx := y.tx ++ [{ frame := e.frame, cls := .limited, resetReply := false }] }
          else { y with ctr := { y.ctr with forwardDrops := y.ctr.forwardDrops + 1 } })))
    ∧ (r.action = 3 → ¬ open? →
      exec (.frameHandOn p) s
        = .next (s.setPort p { x with rx := rest, cls := { x.cls with gated := x.cls.gated + n } }))
    ∧ (r.action = 4 →
      exec (.frameHandOn p) s
        = .next (s.setPort p { x with rx := rest, cls := { x.cls with dropped := x.cls.dropped + n } }))

/-- FRAME_HAND_ON of a frame whose first matching entry is REQUEST: a REQUEST frame from the vehicle port with one of the six cab
tags is that cab request carried out, the requested counter raised; any other is dropped as misdirected. That the counter is raised
before the request is carried out is the model's choice (assumption 44). -/
def Obligations.HandOnRequested : Prop :=
  ∀ (p : Port) (e : RxEntry) (rest : List RxEntry) (r : RouteEntry) (s : State), (s.port p).rx = e :: rest →
    (e.frame.kind ≠ .mgmtReq ∨ e.frame.dst ≠ s.station) → s.tableValid 0 = true →
    (routeEntries (s.tab 0).active).find? (fun a => a.matchesFrame p e.frame) = some r → r.action = 1 →
    let x := s.port p
    let n : Counter := if e.marked = true then 0 else 1
    (∀ i : Instr, e.frame.kind = .request → p = .vehicle → cabOf e.frame.values e.frame.tag.toNat = some i →
      exec (.frameHandOn p) s
        = exec i (s.setPort p { x with rx := rest, cls := { x.cls with requested := x.cls.requested + n } }))
    ∧ ((e.frame.kind ≠ .request ∨ p = .chassis ∨ cabOf e.frame.values e.frame.tag.toNat = none) →
      exec (.frameHandOn p) s
        = .next (s.setPort p { x with rx := rest, cls := { x.cls with misdirected := x.cls.misdirected + n } }))

/-- FRAME_HAND_ON of a frame that is no SAMPLE and meets CONSUME first: dropped as misdirected. A batch of reports (Reported), from
a SAMPLE that is consumed or from the ageing of one record, is delivered to the readers, one report for each role whose record
accepted a sample or changed its status, in one batch (assumption 15). A consumed SAMPLE is out of its queue and counted, and every
record is what its definition makes of the frame, a record without a definition unchanged. -/
def Obligations.SamplesReported : Prop :=
  (∀ (p : Port) (e : RxEntry) (rest : List RxEntry) (r : RouteEntry) (s : State), (s.port p).rx = e :: rest →
    (e.frame.kind ≠ .mgmtReq ∨ e.frame.dst ≠ s.station) → s.tableValid 0 = true →
    (routeEntries (s.tab 0).active).find? (fun a => a.matchesFrame p e.frame) = some r → r.action = 0 →
    e.frame.kind ≠ .sample →
    exec (.frameHandOn p) s = .next (s.setPort p
      { s.port p with
        rx := rest
        cls := { (s.port p).cls with misdirected := (s.port p).cls.misdirected + if e.marked = true then 0 else 1 } }))
  ∧ (∀ (c : Instr) (l : List SigReport) (s u : State), Reported s c l u →
    exec c s = .next (deliverReports l u)
    ∧ (∀ x ∈ l, x.role ≠ .none ∧ ∃ (i : Nat) (d : SigDef), s.sigDefs[i]? = some d ∧ Role.ofCode d.role = some x.role
        ∧ x.was = (s.sigAt i).status.usable ∧ (x.accepted = true ∨ (u.sigAt i).status ≠ (s.sigAt i).status ∨ 96 ≤ i))
    ∧ (∀ (i : Fin 96) (d : SigDef) (r : Role), s.sigDefs[i.val]? = some d → Role.ofCode d.role = some r → r ≠ .none →
        u.signals[i].status ≠ s.signals[i].status → ∃ x ∈ l, x.role = r)
    ∧ u = { s with vehicle := u.vehicle, chassis := u.chassis, seq := u.seq, signals := u.signals })
  ∧ (∀ (p : Port) (e : RxEntry) (rest : List RxEntry) (s : State), (s.port p).rx = e :: rest → s.consumes p e.frame →
    ∃ (l : List SigReport) (u t : State), Reported s (.frameHandOn p) l u ∧ exec (.frameHandOn p) s = .next t
      ∧ (t.port p).rx = rest
      ∧ (t.port p).cls
          = { (s.port p).cls with consumed := (s.port p).cls.consumed + if e.marked = true then 0 else 1 }
      ∧ (∀ i : Fin 96, u.signals[i] =
          match s.sigDefs[i.val]? with
          | some d => (sampleOutcome d e.frame s.signals[i]).record s.signals[i]
          | none => s.signals[i])
      ∧ (∀ (i : Fin 96) (d : SigDef) (r : Role), s.sigDefs[i.val]? = some d → Role.ofCode d.role = some r → r ≠ .none →
        (sampleOutcome d e.frame s.signals[i]).isAccepted = true → ∃ x ∈ l, x.role = r ∧ x.accepted = true)
      ∧ ((s.tab 1).pendingSwap = false → t.signals = u.signals))

/-- What one frame does to a matching record, by its sequence and its raw value: duplicate, not available, or accepted and scaled,
with a skip counted; a short frame is counted alone. -/
def Obligations.SampleJudged : Prop :=
  ∀ (d : SigDef) (f : Frame) (r : SigRec), d.source = f.src.toNat → d.tag = f.tag.toNat →
    (f.values[d.position.toNat]? = none →
      sampleOutcome d f r = .counted { r with shorts := satSucc 65535 r.shorts })
    ∧ ∀ v : Val, f.values[d.position.toNat]? = some v →
      (r.status ≠ .never → f.seq = r.lastSeq →
        sampleOutcome d f r = .counted { r with duplicates := satSucc 65535 r.duplicates })
      ∧ (r.status = .never ∨ f.seq ≠ r.lastSeq →
        let skips := if r.status = .never ∨ f.seq = r.lastSeq + 1 then r.skips else satSucc 65535 r.skips
        let x := divNear (v.toInt * d.gain) 256 + d.offset
        let y := if x < d.lower then d.lower else if d.upper < x then d.upper else x
        (v.toInt = -32768 →
          sampleOutcome d f r
            = .counted { r with lastSeq := f.seq, skips := skips, notAvail := satSucc 65535 r.notAvail })
        ∧ (v.toInt ≠ -32768 →
          sampleOutcome d f r = .accepted
            { r with
              lastSeq := f.seq, skips := skips, value := y, lastRaw := v.toInt, age := 0, status := .fresh
              clamp := decide (y ≠ x) }))

/-- A frame that the part builds and offers. A notice of class 0 is not sent; any other takes its counter's present value as its
sequence and the counter is raised; replies and command frames likewise. Own frames may use any of 32 places, notices 24; a frame
without a place is counted as dropped, and the counter is raised all the same. -/
def Obligations.OwnFramesOffered : Prop :=
  (∀ (k : NoticeKind) (vals : List Int) (s : State),
    let cls := if s.tableValid 8 = true then s.param 8 (3 + k.index.val) else k.emptyClass
    let f := buildFrame s.station (if s.tableValid 8 = true then BitVec.ofInt 6 (s.param 8 2) else 63#6) .notice
      (BitVec.ofNat 8 (160 + k.index.val)) s.seq.notice[k.index] ((cls :: vals).map toVal)
    sendNotice k vals s = if cls = 0 then s else
      { s with
        seq := { s.seq with notice := s.seq.notice.set k.index (s.seq.notice[k.index] + 1) }
        vehicle :=
          if s.vehicle.tx.length < 32 ∧ limitedHeld s.vehicle.tx < 24 then
            { s.vehicle with tx := s.vehicle.tx ++ [{ frame := f, cls := .limited, resetReply := false }] }
          else { s.vehicle with ctr := { s.vehicle.ctr with noticeDrops := s.vehicle.ctr.noticeDrops + 1 } } })
  ∧ (∀ (dst : BitVec 6) (ix : Fin 50) (vals : List Val) (b : Bool) (s : State),
    let f := buildFrame s.station dst .mgmtReply (BitVec.ofNat 8 (96 + ix.val)) s.seq.reply[ix] vals
    sendReply dst ix vals b s =
      { s with
        seq := { s.seq with reply := s.seq.reply.set ix (s.seq.reply[ix] + 1) }
        vehicle :=
          if s.vehicle.tx.length < 32 then
            { s.vehicle with tx := s.vehicle.tx ++ [{ frame := f, cls := .own, resetReply := b }] }
          else { s.vehicle with ctr := { s.vehicle.ctr with replyDrops := s.vehicle.ctr.replyDrops + 1 } } })
  ∧ (∀ (p : Port) (r : CmdRec) (s : State),
    let f := buildFrame s.station 63#6 .command (BitVec.ofNat 8 (200 + r.index.val)) s.seq.command[r.index]
      ((recordValues r s).map toVal)
    let x := s.port p
    buildCommand p r s =
      (s.setSeq { s.seq with command := s.seq.command.set r.index (s.seq.command[r.index] + 1) }).setPort p
        (if x.tx.length < 32 then { x with tx := x.tx ++ [{ frame := f, cls := .own, resetReply := false }] }
        else { x with ctr := { x.ctr with commandDrops := x.ctr.commandDrops + 1 } }))

/-- The notices that tell of a change, with their values in order and their codes. SIGNAL-BACK and SIGNAL-LOST carry index and
role, DOOR-STATE the door, its new and old state, the cause and the position, HOLD-STATE the new and old state, the cause, p_hold
and the number of claims after the change, KNEEL-STATE the new and old state, the cause and the timer before the change,
GUARD-LEVEL the new and old level, angle and speed (0 where unusable or LOST: R76 against R190, assumption 53), PART-STATE of START
and STOP the new and old state and the cause, SWAP-DONE the mask and the part state. Each is sent once for its change, and between
them the part sends no frame but notices. A record without a role sends none. The cause of HOLD-CONFIRM ends after HOLD-STATE: the
model's order (assumption 49); the report of a hold that the entry itself confirms comes after PART-STATE: DEDUCED (assumption 17).
-/
def Obligations.NoticesOfChanges : Prop :=
  (∀ (c : SigChange) (s : State),
    let back := c.role ≠ .none ∧ c.before.status = .lost ∧ c.after.status = .fresh
    let lost := c.role ≠ .none ∧ c.before.status ≠ .lost ∧ c.after.status = .lost
    (back → signalNotice c s = sendNotice .signalBack [c.index, c.role.code] s)
    ∧ (lost → signalNotice c s = sendNotice .signalLost [c.index, c.role.code] s)
    ∧ (¬ back → ¬ lost → signalNotice c s = s))
  ∧ (∀ (d : Fin 4) (new : DoorState) (cause : DoorCause) (f : Option FaultCode) (s : State),
    let k := s.door d
    ∃ u, moveDoor d new cause f s
        = sendNotice .doorState [d.val + 1, new.code, k.state.code, cause.code, k.position.code] u
      ∧ (u.door d).state = new ∧ (u.door d).position = k.position ∧ s.OnlyNotices u)
  ∧ (∀ (new : HoldState) (cause : HoldCause) (s : State),
    let u := { s with
      hold := holdAt s new
      holdSet := if new = .confirmed then s.holdSet.filter (fun c => decide (c.holder ≠ .startup)) else s.holdSet
      drive := if new = .confirmed then
          { s.drive with inhibit := !(s.holdSet.filter (fun c => decide (c.holder ≠ .startup))).isEmpty }
        else s.drive }
    let sent := sendNotice .holdState [new.code, s.hold.state.code, cause.code, u.hold.pressure, u.holdSet.length] u
    enterHold new cause s = if s.hold.state = .applying ∧ new ≠ .applying then listEnd .holdConfirm 0 sent else sent)
  ∧ (∀ (cause : KneelCause) (s : State),
    let notice := fun (new : KneelState) (u : State) =>
      sendNotice .kneelState [new.code, s.kneel.state.code, cause.code, s.kneel.timer] u
    (∃ u, toLevel cause s = listEnd .kneelTimeout 0 (notice .level u) ∧ u.kneel = { s.kneel with state := .level, timer := 0 })
    ∧ (∃ u, toRaising cause s = completeRaising (notice .raising u) ∧ u.seq = s.seq ∧ u.vehicle = s.vehicle
      ∧ u.kneel = { s.kneel with state := .raising, timer := 0, timeoutFlag := false })
    ∧ (∃ u, toKnelt cause s = driveRaise (notice .knelt u) ∧ u.seq = s.seq ∧ u.vehicle = s.vehicle
      ∧ u.kneel = { s.kneel with state := .knelt, timer := 0 })
    ∧ (∃ u, toLowering cause s = completeLowering (notice .lowering u) ∧ u.seq = s.seq ∧ u.vehicle = s.vehicle
      ∧ u.kneel = { s.kneel with state := .lowering, timer := 0 })
    ∧ (∃ u, u.kneel = { s.kneel with state := .waitHold, timer := 0 } ∧
        let sent := sendNotice .kneelState [1, s.kneel.state.code, 0, s.kneel.timer] u
        (acceptKneel s).1 = if u.hold.state = .confirmed then toLowering .holdConfirmed sent else sent))
  ∧ (∀ (old : Nat) (s : State), ∃ u, u = { s with axle := u.axle, faults := u.faults, seq := u.seq, vehicle := u.vehicle }
    ∧ s.OnlyNotices u
    ∧ reportGuard old s = if s.joint.guard = old then s else
        sendNotice .guardLevel [s.joint.guard, old, if s.usable .jointAngle = true then s.value .jointAngle else 0
          , if s.motion.status = .valid then s.motion.speed else 0] u)
  ∧ (∀ (src : BitVec 6) (s : State), stationOk src = true → s.resetPending = none →
    (s.part = .config → (∀ x : Fin 9, s.tableValid x = true) → s.motion.standstill = true →
      ∃ u, exec (.start src [0#16]) s = .next (sendReply src 7 [0#16] false (sendNotice .partState [1, 0, 0] u))
        ∧ u.part = .run ∧ s.OnlyNotices u)
    ∧ (s.part = .run → s.motion.standstill = true → s.hold.state ≠ .confirmed → confirmMet s = false →
      ∃ u, exec (.stop src [0#16]) s = .next (sendReply src 8 [0#16] false (sendNotice .partState [2, 1, 1] u))
        ∧ u.part = .stopping ∧ s.OnlyNotices u)
    ∧ (s.part = .run → s.motion.standstill = true → s.hold.state = .confirmed →
      ∃ u v, exec (.stop src [0#16]) s = .next (sendReply src 8 [0#16] false
          (swapsConfig (sendNotice .partState [0, 2, 2] v)))
        ∧ v.part = .config ∧ u.part = .stopping ∧ s.OnlyNotices u ∧ (sendNotice .partState [2, 1, 1] u).OnlyNotices v))
  ∧ (∀ (m : Nat) (s : State), m < 512 → (∀ x : Fin 9, m.testBit x.val = (s.tab x).pendingSwap) → m ≠ 0 →
    (∃ u, swapsConfig s = sendNotice .swapDone [m, s.part.code] u ∧ u.part = s.part ∧ s.OnlyNotices u)
    ∧ (s.part ≠ .config → ∃ u, swapsRun s = sendNotice .swapDone [m, u.part.code] u
      ∧ (u.part = s.part ∨ s.part = .stopping ∧ u.part = .config) ∧ s.OnlyNotices u))
  ∧ [PartState.config, .run, .stopping].map PartState.code = [0, 1, 2]
  ∧ [PartCause.start, .stop, .holdConfirmed, .powerOn, .hard, .soft].map PartCause.code = [0, 1, 2, 3, 4, 5]
  ∧ [KneelState.level, .waitHold, .lowering, .knelt, .raising].map KneelState.code = [0, 1, 2, 3, 4]
  ∧ [KneelCause.request, .holdConfirmed, .targetReached, .loweringTimeout, .raisingTimeout, .doorsLocked, .drive, .standstillLost
      , .stop].map KneelCause.code = [0, 1, 2, 3, 4, 5, 6, 7, 8]
  ∧ [HoldState.released, .pending, .applying, .confirmed, .releasing].map HoldState.code = [0, 1, 2, 3, 4]
  ∧ [HoldCause.claim, .standstill, .confirmed, .confirmTimeout, .drive, .rampEnd, .start, .stop].map HoldCause.code
      = [0, 1, 2, 3, 4, 5, 6, 7]
  ∧ [DoorState.unknown, .locked, .releaseWait, .released, .opening, .openState, .warning, .closing, .reversing, .emergency, .fault].map
      DoorState.code = [0, 1, 2, 3, 4, 5, 6, 7, 8, 9, 10]
  ∧ [DoorCause.request, .standstill, .gateMet, .button, .position, .timeout, .edge, .dwell, .warningEnd, .lineClear, .emergency
      , .handleReturn, .forced, .positionLost, .start, .stop].map DoorCause.code
      = [0, 1, 2, 3, 4, 5, 6, 7, 8, 9, 10, 11, 12, 13, 14, 15]
  ∧ [DoorPos.none, .closedLocked, .closedUnlocked, .between, .fullyOpen].map DoorPos.code = [0, 1, 2, 3, 4]

/-! ### The cycle start -/

/-- CYCLE_START answers: in some order of the thirteen jobs, each job's work is done once, after the cycle number has risen by one
and the trim has been taken from the active T8; no job changes the cycle number or the trim. That the jobs are worked whole, one
after another in an order the manual leaves open, is the model's choice (assumption 1). -/
def Obligations.CycleStartWorks : Prop :=
  ∀ s : State, ∃ (order : List Job) (t : State), order.Perm allJobs ∧ exec .cycleStart s = .next t
    ∧ t = order.foldl (fun x j => runJob j x)
        { s with
          free := s.free + 1, cycle := s.cycle + 1, trim := if s.tableValid 8 = true then s.param 8 1 else 0 }
    ∧ t.cycle = s.cycle + 1 ∧ t.trim = if s.tableValid 8 = true then s.param 8 1 else 0

/-- The work of a cycle start at the links, the signal store and the load state, each as one job of CYCLE_START (assumption 1). A
port's error score falls by one, and heals its link fault at 0 as LINK_FAULT_HEAL does; every record's age and status follow its
limits and its policy, and with no status changed nothing else does; a load's idle timer rises by one, to the end that LOAD_ABANDON
makes. -/
def Obligations.LinksStoreAndLoadCounted : Prop :=
  ∀ s : State,
    (∀ p : Port,
      let x := s.port p
      let job : Job := match p with | .vehicle => .scoreVehicle | .chassis => .scoreChassis
      ((x.linkFault = false ∨ 1 < x.score) → runJob job s = s.setPort p { x with score := x.score - 1 })
      ∧ (x.linkFault = true → x.score ≤ 1 → exec (.linkFaultHeal p) s = .next (runJob job s)))
    ∧ (let t := runJob .signals s;
      ((s.tab 1).pendingSwap = false →
        ∀ (i : Fin 96), (s.sigDefs[i.val]? = none → t.signals[i] = s.signals[i])
          ∧ ∀ d : SigDef, s.sigDefs[i.val]? = some d →
            let r := s.signals[i]
            let age := if r.age < 255 then r.age + 1 else r.age
            let stale := r.status = .fresh ∧ d.freshness < (age : Int)
            let beyond := d.freshness + d.holdLimit < (age : Int)
            (r.status = .never → t.signals[i] = r)
            ∧ (stale → d.policy = 1 →
              t.signals[i] = { r with age := age, status := .substituted, value := d.default, clamp := false })
            ∧ (stale → d.policy = 2 ∨ d.policy = 0 ∧ beyond → t.signals[i] = { r with age := age, status := .lost })
            ∧ (stale → d.policy = 0 → ¬ beyond → t.signals[i] = { r with age := age, status := .held })
            ∧ (r.status = .held → beyond → t.signals[i] = { r with age := age, status := .lost })
            ∧ (r.status ≠ .never → ¬ stale → ¬ (r.status = .held ∧ beyond) → t.signals[i] = { r with age := age }))
      ∧ ((∀ (i : Fin 96) (d : SigDef), s.sigDefs[i.val]? = some d → (s.signals[i].aged d).status = s.signals[i].status) →
        s.TablesSound → t = s.setSignals t.signals))
    ∧ ((s.loading = none → runJob .load s = s)
      ∧ ∀ l : Loading, s.loading = some l →
        (l.idle + 1 < 2000 → runJob .load s = s.setLoading (some { l with idle := l.idle + 1 }))
        ∧ (2000 ≤ l.idle + 1 → exec .loadAbandon s = .next (runJob .load s)))

/-- The work of a cycle start at the running gear, each as one job of CYCLE_START (assumption 1). The standstill timer counts at a
low VALID speed, is 0 otherwise, stays while the flag is set, and sets the flag as STANDSTILL_SET does. The tracking test counts,
and then the command moves toward the target by at most the step rate in ACTIVE and CENTERING alone. The guard timer counts while
the fall condition holds, is 0 when it fails, and lowers the level as GUARD_FALL does. A timer past its time after a swap counts as
come to it: DEDUCED (assumption 26). -/
def Obligations.GearCounted : Prop :=
  ∀ s : State,
    (let m := s.motion
      let counts := s.tableValid 8 = true ∧ m.status = .valid ∧ m.speed ≤ s.param 8 17;
      (m.standstill = true → runJob .motion s = s)
      ∧ (m.standstill = false → ¬ counts → runJob .motion s = s.setMotion { m with timer := 0 })
      ∧ (m.standstill = false → counts → ((m.timer + 1 : Nat) : Int) < s.param 8 19 →
        runJob .motion s = s.setMotion { m with timer := m.timer + 1 })
      ∧ (m.standstill = false → counts → s.param 8 19 ≤ ((m.timer + 1 : Nat) : Int) →
        exec .standstillSet s = .next (runJob .motion s)))
    ∧ (let r := s.rear
      let safe := s.faults.levels.steering = .safe
      let off := s.param 3 201 < mag (s.value .rearActual - r.command)
      let rate := if r.state = .centering ∧ s.faults.levels.steering = .reduced then s.param 3 198 else s.param 3 197
      let t := runJob .rear s;
      (r.state = .parked → t = s)
      ∧ (r.state ≠ .parked → s.FaultsSound →
        (safe ∨ s.usable .rearActual = false ∨ ¬ off ∨ ((r.trackTimer + 1 : Nat) : Int) < s.param 3 202) →
        t.rear.target = r.target ∧ t.rear.latch = r.latch
        ∧ t.rear.trackTimer = (if safe then 0 else if s.usable .rearActual = false then r.trackTimer
            else if off then r.trackTimer + 1 else 0)
        ∧ (r.state ≠ .active → r.state ≠ .centering → t.rear.command = r.command)
        ∧ (r.state = .active ∨ r.state = .centering →
          (mag (r.target - r.command) ≤ rate → t.rear.command = r.target)
          ∧ (rate < mag (r.target - r.command) → r.command < r.target → t.rear.command = r.command + rate)
          ∧ (rate < mag (r.target - r.command) → r.target ≤ r.command → t.rear.command = r.command - rate))
        ∧ t = { s with rear := t.rear, faults := t.faults }))
    ∧ (let j := s.joint
      let watching := s.part ≠ .config ∧ guardWatches s = true ∧ (j.guard = 1 ∨ j.guard = 2);
      (¬ watching → runJob .joint s = s)
      ∧ (watching → guardFalls s j.guard = false → runJob .joint s = s.setJoint { j with guardTimer := 0 })
      ∧ (watching → guardFalls s j.guard = true → ((j.guardTimer + 1 : Nat) : Int) < s.param 4 32 →
        runJob .joint s = s.setJoint { j with guardTimer := j.guardTimer + 1 })
      ∧ (watching → guardFalls s j.guard = true → s.param 4 32 ≤ ((j.guardTimer + 1 : Nat) : Int) →
        exec .guardFall s = .next (runJob .joint s)))

/-- The work of a cycle start at the corners and the kneel, each as one job of CYCLE_START (assumption 1). A corner in HOLD counts
its settle timer down; frozen, or on a standing bus, nothing else of it changes; settled and moving without suspension, it counts
its persistence on the side of its error and acts at the persistence time; suspended, it counts none. A run counts pulse and run
timer, ends at its end test and goes on otherwise, a fill unless the arbiter takes its slot. The kneel timer counts in LOWERING
and, the flag clear, in RAISING, to the timeouts that LOWERING_TIMEOUT and RAISING_TIMEOUT make. The suspension test stands between
timeout test and persistence count: DEDUCED (assumption 28); a timer past its time after a swap counts as come to it: DEDUCED
(assumption 26); a standing bus keeps persistence timer and direction: DESIGN CHOICE (assumption 63). -/
def Obligations.CornersAndKneelCounted : Prop :=
  ∀ s : State, s.LatchedActive →
    (let t := runJob .corners s;
      (s.part = .config → t = s)
      ∧ (s.part ≠ .config →
        t = { s with corners := t.corners, seq := t.seq, vehicle := t.vehicle, faults := t.faults }
        ∧ ∀ c : Fin 6,
          let k := s.corner c
          let x := t.corner c
          let kneeling := s.kneelCorner c = true ∧ s.kneel.state.lowered = true
          let dir := movingDir (s.param 5 12) k.error
          let count := if dir = .none then 0 else if k.dir = dir then k.persist + 1 else 1
          let run : Corner := { k with pulse := min (s.param 5 15).toNat (k.pulse + 1), run := k.run + 1 }
          let half := (s.param 5 11) / 2
          let ended := s.param 5 15 ≤ (run.pulse : Int)
            ∧ (k.valve = .filling ∧ k.error ≤ half ∨ k.valve = .exhausting ∧ -half ≤ k.error)
          (k.valve = .hold → x.settle = k.settle - 1)
          ∧ (k.valve = .hold → (k.frozen = true ∨ s.motion.standstill = true) → x = { k with settle := k.settle - 1 })
          ∧ (k.valve = .hold → k.frozen = false → s.motion.standstill = false → ¬ kneeling → suspended s = false → k.settle ≤ 1 →
            (dir = .none ∨ (count : Int) < s.param 5 13 → x = { k with settle := 0, persist := count, dir := dir })
            ∧ (dir = .up → s.param 5 13 ≤ (count : Int) →
              (x.valve = .waitFill ∨ x.valve = .filling) ∧ x.persist = 0 ∧ x.dir = .none)
            ∧ (dir = .down → s.param 5 13 ≤ (count : Int) →
              x = { k with
                valve := .exhausting, settle := 0, pulse := 0, run := 0, runStart := k.height, persist := 0, dir := .none }))
          ∧ (k.valve = .hold → k.frozen = false → suspended s = true → k.cls = .two → ¬ kneeling →
            x = { k with settle := k.settle - 1, persist := 0, dir := .none })
          ∧ ((k.valve = .filling ∨ k.valve = .exhausting) → k.frozen = false → suspended s = false → 1 ≤ s.param 5 16 →
            0 ≤ s.param 5 15 →
            (ended → x = { k with valve := .hold, pulse := 0, run := 0, settle := (s.param 5 16).toNat })
            ∧ (¬ ended → k.valve = .exhausting → (run.run : Int) ≤ s.param 5 18 → x = run)
            ∧ (¬ ended → k.valve = .filling → (run.run : Int) ≤ s.param 5 17 →
              x = run ∨ x = { run with valve := .waitFill, pulse := 0, run := 0 }))))
    ∧ (let k := s.kneel
      let next := ((k.timer + 1 : Nat) : Int)
      let runs := s.part ≠ .config ∧ (k.state = .lowering ∨ k.state = .raising ∧ k.timeoutFlag = false);
      (¬ runs → runJob .kneel s = s)
      ∧ (runs → next ≤ (if k.state = .lowering then s.param 5 37 else s.param 5 38) →
        runJob .kneel s = s.setKneel { k with timer := k.timer + 1 })
      ∧ (runs → k.state = .lowering → s.param 5 37 < next → exec .loweringTimeout s = .next (runJob .kneel s))
      ∧ (runs → k.state = .raising → s.param 5 38 < next → exec .raisingTimeout s = .next (runJob .kneel s)))

/-- The work of a cycle start at the hold, the axles and the doors, each as one job of CYCLE_START (assumption 1). The confirm timer
counts in APPLYING with the flag clear, the release ramp lowers p_hold, each to the end that its own event makes; an axle above its
maximum counts its saturation up to 255, any other is at 0; a door counts its timer where its state counts one, does what its
timer's end asks, and makes its gate test in RELEASE-WAIT. A timer past its time after a swap counts as come to its time (assumption
26). -/
def Obligations.HoldAxlesAndDoorsCounted : Prop :=
  ∀ s : State, s.LatchedActive →
    (s.part = .config → runJob .hold s = s ∧ runJob .saturation s = s ∧ runJob .doors s = s)
    ∧ (s.part ≠ .config →
      (let h := s.hold
        let next := ((h.confirmTimer + 1 : Nat) : Int);
        ((h.state = .released ∨ h.state = .pending ∨ h.state = .confirmed ∨ h.state = .applying ∧ h.timeoutFlag = true) →
          runJob .hold s = s)
        ∧ (h.state = .applying → h.timeoutFlag = false → next ≤ s.param 6 17 →
          runJob .hold s = s.setHold { h with confirmTimer := h.confirmTimer + 1 })
        ∧ (h.state = .applying → h.timeoutFlag = false → s.param 6 17 < next →
          exec .confirmTimeout s = .next (runJob .hold s))
        ∧ (h.state = .releasing → s.param 6 19 < h.pressure →
          runJob .hold s = resolveAxles (s.setHold { h with pressure := h.pressure - s.param 6 19 }))
        ∧ (h.state = .releasing → h.pressure ≤ s.param 6 19 → exec .rampEnd s = .next (runJob .hold s)))
      ∧ (let t := runJob .saturation s;
        (∀ a : Fin 3,
          (s.param 6 (11 + a.val) < s.axle.driver[a] →
            t.axle.satTimer[a] = (if s.axle.satTimer[a] < 255 then s.axle.satTimer[a] + 1 else s.axle.satTimer[a])
            ∧ (s.axle.satTimer[a] < 255 → ((s.axle.satTimer[a] + 1 : Nat) : Int) = s.param 6 20 →
              s.faults.list.length ≤ 29 → t.faultActive .brakeSaturated a.val))
          ∧ (s.axle.driver[a] ≤ s.param 6 (11 + a.val) → t.axle.satTimer[a] = 0))
        ∧ t = { s with
            axle := { s.axle with satTimer := t.axle.satTimer }, seq := t.seq, vehicle := t.vehicle, faults := t.faults })
      ∧ (let t := runJob .doors s
        t = { s with doors := t.doors, seq := t.seq, vehicle := t.vehicle, faults := t.faults }
        ∧ ∀ d : Fin 4,
          let k := s.door d
          let x := t.door d
          let next := ((k.timer + 1 : Nat) : Int)
          let p := fun n => s.param 7 (11 * d.val + n)
          let permitted := s.motion.standstill = true ∧ s.hold.state = .confirmed
          let dwells := p 6 ≠ 0 ∧ (k.reversals : Int) < p 7 ∧ k.closeDeferred = false
          let counted : Door := { k with timer := k.timer + 1 }
          ((k.state = .unknown ∨ k.state = .locked ∨ k.state = .released ∨ k.state = .emergency ∨ k.state = .fault) → x = k)
          ∧ ((k.state = .opening ∨ k.state = .reversing) →
            (¬ permitted → x = k) ∧ (permitted → next ≤ p 3 → x = counted)
            ∧ (permitted → p 3 < next → x.state = .fault ∧ x.timer = 0))
          ∧ (k.state = .openState →
            (¬ dwells → x = k) ∧ (dwells → next < p 6 → x = counted)
            ∧ (dwells → p 6 ≤ next → x.state = .warning ∧ x.timer = 0 ∨ x = { counted with closeDeferred := true }))
          ∧ (k.state = .warning →
            (next < p 5 → x = counted) ∧ (p 5 ≤ next → x.state = .closing ∧ x.timer = 0 ∧ x.tone = false))
          ∧ (k.state = .closing → (next ≤ p 4 → x = counted) ∧ (p 4 < next → x.state = .fault ∧ x.timer = 0))
          ∧ (k.state = .releaseWait →
            (¬ (permitted ∧ gateOf s d = true) → x = k)
            ∧ (permitted → gateOf s d = true →
              x.state = (match k.mode with | .cabOpen => .opening | .passenger => .released) ∧ x.timer = 0))))

/-- The scheduler's work of a cycle start, as one job of CYCLE_START (assumption 1): in RUN and STOPPING it builds, in list order,
the items of the schedule entry whose index is the cycle number modulo 16; in CONFIG it builds nothing. The values of each command
frame are written out: REAR-STEER, JOINT, BRAKE, HEIGHT, DOOR, DRIVE and STATUS. A DOOR frame carries OPEN or UNLOCK for a door
only while standstill is set and the hold is CONFIRMED, and then for a door in OPENING, REVERSING or RELEASED alone; its fifth
value is the mask of the tones. -/
def Obligations.ScheduleBuilt : Prop :=
  (∀ s : State, s.part = .config → runJob .schedule s = s)
  ∧ (∀ (lists : List (List (Port × CmdRec))) (s : State), lists.length = 16 → (∀ l ∈ lists, l.length ≤ 6) →
    s.tableValid 2 = true →
    (s.tab 2).active = lists.flatMap (fun l =>
      toVal l.length :: l.map (fun i => toVal (8 * portIndex i.1 + i.2.index.val))) →
    s.part ≠ .config →
    runJob .schedule s = (lists.getD (s.cycle.toNat % 16) []).foldl (fun x i => buildCommand i.1 i.2 x) s)
  ∧ (∀ s : State,
    let bit := fun (p : Bool) (n : Int) => if p = true then n else 0
    let level := fun l : Level => match l with | .full => (0 : Int) | .reduced => 1 | .safe => 2
    let valve := fun c : Fin 6 => match (s.corner c).valve with
      | .hold => (0 : Int) | .waitFill => 0 | .filling => 1 | .exhausting => 2
    let permitted := s.motion.standstill = true ∧ s.hold.state = .confirmed
    let door := fun d : Fin 4 => match (s.door d).state with
      | .opening => if permitted then (2 : Int) else 0 | .reversing => if permitted then 2 else 0
      | .released => if permitted then 1 else 0 | .closing => 3 | .emergency => 4 | .fault => 4
      | .unknown => 0 | .locked => 0 | .releaseWait => 0 | .openState => 0 | .warning => 0
    let locked := decide (∀ d : Fin 4, (s.door d).state = .locked)
    recordValues .rearSteer s =
      [s.rear.command, if s.rear.state = .locked ∨ s.rear.state = .frozen then 1 else 0
        , match s.rear.state with | .parked => 0 | .active => 1 | .centering => 2 | .locked => 3 | .frozen => 4]
    ∧ recordValues .joint s =
      [s.joint.damper, match s.joint.mode with | .normal => 0 | .stiff => 1, s.joint.guard, s.joint.rate]
    ∧ recordValues .brake s =
      [s.axle.pressure[0], s.axle.pressure[1], s.axle.pressure[2], bit s.axle.holdFlag 1, bit s.axle.backup 1]
    ∧ recordValues .height s = [valve 0, valve 1, valve 2, valve 3, valve 4, valve 5]
    ∧ recordValues .door s =
      [door 0, door 1, door 2, door 3
        , bit (s.door 0).tone 1 + bit (s.door 1).tone 2 + bit (s.door 2).tone 4 + bit (s.door 3).tone 8]
    ∧ recordValues .drive s = [bit s.drive.inhibit 1, s.drive.torque]
    ∧ recordValues .status s =
      [match s.part with | .config => 0 | .run => 1 | .stopping => 2
        , if s.motion.status = .lost then -32768 else s.motion.speed
        , bit s.motion.standstill 1 + bit s.faults.amber 2 + bit s.faults.red 4 + bit s.drive.inhibit 8 + bit locked 16
        , (match s.hold.state with | .released => 0 | .pending => 1 | .applying => 2 | .confirmed => 3 | .releasing => 4) * 16
          + s.holdSet.length
        , (match s.kneel.state with | .level => 0 | .waitHold => 1 | .lowering => 2 | .knelt => 3 | .raising => 4) * 64
          + (match s.air.level with | .normal => 0 | .restricted => 1 | .reserve => 2 | .unknown => 3) * 8 + s.joint.guard
        , level s.faults.levels.steering + 4 * level s.faults.levels.joint + 16 * level s.faults.levels.height
          + 64 * level s.faults.levels.brake])

/-! ### The internal events -/

/-- An internal event that is not due changes nothing: where its timer, counted once more, does not stand at its time or past it,
or where one of the conditions under which it is counted does not hold. Each condition is the one under which the statements on
these events say what they do. The model's choice (assumption 10). -/
def Obligations.EventsNotDue : Prop :=
  ∀ s : State,
    let counted := fun n : Nat => ((n + 1 : Nat) : Int)
    let running := s.part ≠ .config
    (∀ p : Port, ¬ ((s.port p).linkFault = true ∧ (s.port p).score ≤ 1) → exec (.linkFaultHeal p) s = .next s)
    ∧ (∀ i : Fin 96,
      let age := if s.signals[i].age < 255 then s.signals[i].age + 1 else s.signals[i].age
      ((∀ d : SigDef, s.sigDefs[i.val]? = some d → s.signals[i].status = .fresh → (age : Int) ≤ d.freshness) →
        exec (.signalStale i) s = .next s)
      ∧ ((∀ d : SigDef, s.sigDefs[i.val]? = some d → s.signals[i].status = .held →
          (age : Int) ≤ d.freshness + d.holdLimit) →
        exec (.signalHoldExpiry i) s = .next s))
    ∧ (¬ (s.motion.standstill = false ∧ s.tableValid 8 = true ∧ s.motion.status = .valid ∧ s.motion.speed ≤ s.param 8 17
        ∧ s.param 8 19 ≤ counted s.motion.timer) → exec .standstillSet s = .next s)
    ∧ (¬ s.TrackingElapses → exec .rearTracking s = .next s)
    ∧ (¬ (running ∧ s.GuardWatches ∧ s.GuardFallMet ∧ s.param 4 32 ≤ counted s.joint.guardTimer) →
      exec .guardFall s = .next s)
    ∧ (∀ c : Fin 6,
      (¬ s.PersistenceElapses c → exec (.persistenceElapsed c) s = .next s)
      ∧ (¬ s.PulseElapses c → exec (.minimumPulse c) s = .next s)
      ∧ (¬ s.RunTimesOut c → exec (.runTimeout c) s = .next s))
    ∧ (¬ (running ∧ s.kneel.state = .lowering ∧ s.param 5 37 < counted s.kneel.timer) → exec .loweringTimeout s = .next s)
    ∧ (¬ (running ∧ s.kneel.state = .raising ∧ s.kneel.timeoutFlag = false ∧ s.param 5 38 < counted s.kneel.timer) →
      exec .raisingTimeout s = .next s)
    ∧ (¬ (running ∧ s.hold.state = .applying ∧ s.hold.timeoutFlag = false ∧ s.param 6 17 < counted s.hold.confirmTimer) →
      exec .confirmTimeout s = .next s)
    ∧ (¬ (running ∧ s.hold.state = .releasing ∧ s.hold.pressure ≤ s.param 6 19) → exec .rampEnd s = .next s)
    ∧ (∀ a : Fin 3,
      ¬ (running ∧ s.param 6 (11 + a.val) < s.axle.driver[a] ∧ s.axle.satTimer[a] < 255
        ∧ counted s.axle.satTimer[a] = s.param 6 20) → exec (.brakeSaturated a) s = .next s)
    ∧ (∀ d : Fin 4,
      let k := s.door d
      let p := fun n : Nat => s.param 7 (11 * d.val + n)
      (¬ (running ∧ (k.state = .opening ∨ k.state = .reversing) ∧ s.motion.standstill = true ∧ s.hold.state = .confirmed
          ∧ p 3 < counted k.timer) → exec (.openingTimeout d) s = .next s)
      ∧ (¬ (running ∧ k.state = .closing ∧ p 4 < counted k.timer) → exec (.closingTimeout d) s = .next s)
      ∧ (¬ (running ∧ k.state = .warning ∧ p 5 ≤ counted k.timer) → exec (.warningEnd d) s = .next s)
      ∧ (¬ (running ∧ k.state = .openState ∧ p 6 ≠ 0 ∧ (k.reversals : Int) < p 7 ∧ k.closeDeferred = false
          ∧ p 6 ≤ counted k.timer) → exec (.dwellEnd d) s = .next s))
    ∧ (¬ (∃ l : Loading, s.loading = some l ∧ 2000 ≤ l.idle + 1) → exec .loadAbandon s = .next s)

/-- LINK_FAULT_HEAL, the flag set and the score at 1 or 0, answers: the score is 0, the flag clear, the cause of the port's link
fault ended and its entry INACTIVE. SIGNAL_STALE of a FRESH record whose age, counted, exceeds its freshness limit, and
SIGNAL_HOLD_EXPIRY of a HELD record whose age, counted, exceeds its freshness limit and hold limit together, answer; the record
changes by its policy and no other does. That these commands make their own count and no other cycle-start work is the model's
choice (assumption 10). -/
def Obligations.LinkHealsAndSignalsAge : Prop :=
  (∀ (p : Port) (s : State), (s.port p).linkFault = true → (s.port p).score ≤ 1 → s.FaultsSound →
    ∃ t, exec (.linkFaultHeal p) s = .next t
      ∧ (t.port p).score = 0 ∧ (t.port p).linkFault = false ∧ (t.port p).rx = (s.port p).rx
      ∧ ¬ t.faultActive (match p with | .vehicle => .linkV | .chassis => .linkC) (portIndex p)
      ∧ t = { s with vehicle := t.vehicle, chassis := t.chassis, seq := t.seq, faults := t.faults })
  ∧ (∀ (i : Fin 96) (d : SigDef) (s : State), s.sigDefs[i.val]? = some d → (s.tab 1).pendingSwap = false →
    let r := s.signals[i]
    let age := if r.age < 255 then r.age + 1 else r.age
    (r.status = .fresh → d.freshness < (age : Int) →
      ∃ t, exec (.signalStale i) s = .next t
        ∧ (d.policy = 0 → t.signals = s.signals.set i
            { r with age := age, status := if d.freshness + d.holdLimit < (age : Int) then .lost else .held })
        ∧ (d.policy = 1 → t.signals = s.signals.set i
            { r with age := age, status := .substituted, value := d.default, clamp := false })
        ∧ (d.policy = 2 → t.signals = s.signals.set i { r with age := age, status := .lost }))
    ∧ (r.status = .held → d.freshness + d.holdLimit < (age : Int) →
      ∃ t, exec (.signalHoldExpiry i) s = .next t ∧ t.signals = s.signals.set i { r with age := age, status := .lost }))

/-- STANDSTILL_SET, with the timer one short of the standstill time at a low VALID speed, answers: the flag is set, the timer
counted; in CONFIG nothing else changes; in RUN and STOPPING every pending swap is taken and no other table changes. A PENDING hold
is applied, and so is a RELEASING one unless the drive is asked; any other, and that one, stays, where no release is taken up and
no swap taken. A pending release is taken up, with the door's claim held. It, and with no swap taken any door in RELEASE-WAIT, goes
on, opening or released by its mode, exactly where the hold then stands CONFIRMED and the door's gate is met; with a kneel in
WAIT-HOLD, which a confirmed hold lowers within the event, that is said of the gates that do not name KNELT. That this command
makes its own count and no other cycle-start work is the model's choice (assumption 10); so is a timer past its time after a swap
that counts as come to its time (assumption 26). A hold that leaves APPLYING keeps confirm timer and flag: DEDUCED (assumption 48).
-/
def Obligations.StandstillIsSet : Prop :=
  ∀ s : State, s.motion.standstill = false → s.tableValid 8 = true → s.motion.status = .valid →
    s.motion.speed ≤ s.param 8 17 → s.param 8 19 ≤ ((s.motion.timer + 1 : Nat) : Int) → (s.tab 1).pendingSwap = false →
    (s.part = .config → s.rear.state = .parked →
      exec .standstillSet s
        = .next (s.setMotion { s.motion with standstill := true, timer := s.motion.timer + 1 }))
    ∧ (s.part ≠ .config →
      let h := s.hold
      let asked := s.usable .driveRequest = true ∧ s.param 6 18 ≤ s.value .driveRequest
      let applies := h.state = .pending ∨ h.state = .releasing ∧ ¬ asked
      let namesKnelt := fun d : Fin 4 =>
        (s.raw 7 (11 * d.val + 1)).getLsbD 5 = true ∨ (s.raw 7 (11 * d.val + 2)).getLsbD 5 = true
      let takenUp := fun d : Fin 4 => (s.door d).state = .locked ∧ (s.door d).pendingRelease = true
      ∃ t, exec .standstillSet s = .next t
        ∧ t.motion = { s.motion with standstill := true, timer := s.motion.timer + 1 }
        ∧ (∀ x : Fin 9, t.tab x = if (s.tab x).pendingSwap = true then (s.tab x).exchange else s.tab x)
        ∧ ((∀ x : Fin 9, (s.tab x).pendingSwap = false) → (∀ d : Fin 4, ¬ takenUp d) →
          (applies → confirmMet s = false →
            t.hold = { state := .applying, pressure := s.param 6 14, confirmTimer := 0, timeoutFlag := false })
          ∧ (applies → confirmMet s = true → s.part = .run → s.kneel.state ≠ .waitHold →
            t.hold = { state := if s.claims .startup = true ∧ (∀ x ∈ s.holdSet, x.holder = .startup) ∧ asked then .releasing
                         else .confirmed
                       pressure := s.param 6 14, confirmTimer := 0, timeoutFlag := false })
          ∧ (applies → confirmMet s = true → s.part = .stopping → t.part = .config)
          ∧ (¬ applies → t.hold = h))
        ∧ (∀ d : Fin 4, takenUp d → t.part ≠ .config →
          ((t.door d).state = .releaseWait ∨ (t.door d).state = .opening ∨ (t.door d).state = .released)
          ∧ (t.door d).pendingRelease = false ∧ (t.door d).mode = (s.door d).mode ∧ (t.door d).timer = 0
          ∧ (t.door d).tone = false ∧ t.claims (.door d) = true)
        ∧ ((∀ x : Fin 9, (s.tab x).pendingSwap = false) → s.HoldSound → s.DoorsHeld → t.part ≠ .config → ∀ d : Fin 4,
          (s.kneel.state ≠ .waitHold ∨ ¬ namesKnelt d) → (takenUp d ∨ (s.door d).state = .releaseWait) →
          (t.door d).state = t.afterWait d)
        ∧ (∀ d : Fin 4, ¬ takenUp d → (s.door d).state ≠ .releaseWait → (∀ x : Fin 9, (s.tab x).pendingSwap = false) →
          t.part ≠ .config → t.door d = s.door d))

/-- REAR_TRACKING, when the count brings the tracking timer to the track time, answers: the fault is listed and ACTIVE, the
steering level SAFE, the state LOCKED with the command kept, the target 0 and the timer 0. A tracking timer past the track time
after a swap counts as come to it (assumption 26). GUARD_FALL, the guard watching and the fall condition held for the minimum
duration, answers: the level falls by one and the timer is 0; damper and torque limit are computed anew; the torque limit is the
level-1 limit after a fall from 2 and 1000 after a fall from 1; a level that leaves 2 ends the cause of GUARD-2. The fall condition
is that of R73: at level 2 the angle below the guard angle plus the level-2 margin less the hysteresis, and the rate not folding
the joint faster than the level-2 rate; at level 1 the angle below the guard angle less the hysteresis. That these commands make
their own count and no other cycle-start work is the model's choice (assumption 10). -/
def Obligations.TrackingAndGuardFall : Prop :=
  (∀ s : State, s.TrackingElapses → 1 ≤ s.param 3 202 → s.FaultsSound → s.faults.list.length < 32 →
    ∃ t, exec .rearTracking s = .next t
      ∧ t.faultActive .rearTracking 0 ∧ t.causeEnded .rearTracking 0 ∧ t.faults.levels.steering = .safe
      ∧ t.rear.state = .locked ∧ t.rear.command = s.rear.command ∧ t.rear.target = 0 ∧ t.rear.trackTimer = 0
      ∧ t = { s with rear := t.rear, seq := t.seq, vehicle := t.vehicle, faults := t.faults } ∧ s.OnlyNotices t)
  ∧ (∀ s : State, s.part ≠ .config → s.GuardWatches → s.GuardFallMet →
    s.param 4 32 ≤ ((s.joint.guardTimer + 1 : Nat) : Int) → s.FaultsSound → s.drive.torque = s.joint.torque →
    ∃ t, exec .guardFall s = .next t
      ∧ t.joint = { s.joint with
          guard := s.joint.guard - 1, guardTimer := 0, mode := .normal
          damper := damperPressure s (damperGain s s.motion.speed)
          torque := if s.joint.guard = 2 then s.param 4 33 else 1000 }
      ∧ t.drive = { s.drive with torque := t.joint.torque }
      ∧ (s.joint.guard = 2 → ¬ t.faultActive .guard2 0)
      ∧ t = { s with
          joint := t.joint, drive := t.drive, axle := t.axle, seq := t.seq, vehicle := t.vehicle, faults := t.faults } ∧ s.OnlyNotices t)

/-- PERSISTENCE_ELAPSED and MINIMUM_PULSE, when due, answer: a corner that has been low for the persistence time, settled and free
on a moving bus under no suspension and no kneel, waits for a fill or is granted one, a corner that has been high begins to
exhaust; a run that has reached its band and its minimum pulse ends in HOLD with the settle time to run. Nothing but corner records
changes. RUN_TIMEOUT of a corner whose run, counted and past the end test, has passed its timeout, answers. With an improvement of
5 mm or more a new window begins, unless the arbiter takes the slot of a filling corner; with less, the corner is frozen in HOLD
and CORNER-TIMEOUT stands in the list, ACTIVE with its cause ENDED. LOWERING_TIMEOUT, the kneel timer past the lowering timeout,
answers: KNEEL-TIMEOUT is raised and the kneel is RAISING, or at once LEVEL where its corners already meet the raising test.
RAISING_TIMEOUT answers: KNEEL-TIMEOUT is raised, the flag set and the state kept. That these commands make their own count and no
other cycle-start work is the model's choice (assumption 10); so is a timer past its time after a swap that counts as come to its
time (assumption 26). -/
def Obligations.CornersAndKneelTimeOut : Prop :=
  (∀ (c : Fin 6) (s : State),
    let k := s.corner c
    (s.PersistenceElapses c →
      ∃ t, exec (.persistenceElapsed c) s = .next t ∧ t = s.setCorners t.corners
        ∧ (s.param 5 12 < k.error →
          ((t.corner c).valve = .waitFill ∨ (t.corner c).valve = .filling)
            ∧ (t.corner c).persist = 0 ∧ (t.corner c).dir = .none)
        ∧ (k.error ≤ s.param 5 12 →
          t.corner c = { k with
            valve := .exhausting, pulse := 0, run := 0, runStart := k.height, persist := 0, dir := .none }))
    ∧ (s.PulseElapses c →
      ∃ t, exec (.minimumPulse c) s = .next t ∧ t = s.setCorners t.corners
        ∧ t.corner c = { k with valve := .hold, pulse := 0, run := 0, settle := (s.param 5 16).toNat }))
  ∧ (∀ (c : Fin 6) (s : State), s.RunTimesOut c →
    let k := s.corner c
    let window : Corner := { k with pulse := min (s.param 5 15).toNat (k.pulse + 1), run := 0, runStart := k.height }
    (5 ≤ (if k.valve = .filling then k.height - k.runStart else k.runStart - k.height) →
      ∃ t, exec (.runTimeout c) s = .next t ∧ t = s.setCorners t.corners
        ∧ (k.valve = .exhausting → t.corner c = window)
        ∧ (k.valve = .filling → t.corner c = window ∨ t.corner c = { window with valve := .waitFill, pulse := 0 }))
    ∧ ((if k.valve = .filling then k.height - k.runStart else k.runStart - k.height) < 5 → s.FaultsSound →
      s.faults.list.length < 32 →
      ∃ t, exec (.runTimeout c) s = .next t
        ∧ t.corner c = { k with
            valve := .hold, pulse := 0, run := 0, persist := 0, dir := .none, settle := (s.param 5 16).toNat
            frozenTimeout := true }
        ∧ t.faultActive .cornerTimeout c.val ∧ t.causeEnded .cornerTimeout c.val
        ∧ t = { s with corners := t.corners, seq := t.seq, vehicle := t.vehicle, faults := t.faults } ∧ s.OnlyNotices t))
  ∧ (∀ s : State, s.part ≠ .config → s.faults.list.length < 32 →
    (s.kneel.state = .lowering → s.param 5 37 < ((s.kneel.timer + 1 : Nat) : Int) →
      ∃ t, exec .loweringTimeout s = .next t
        ∧ t.faultActive .kneelTimeout 0
        ∧ (raisingDone s = true → t.kneel.state = .level ∧ t.claims .kneel = false)
        ∧ (raisingDone s = false → t.kneel = { s.kneel with state := .raising, timer := 0, timeoutFlag := false }
          ∧ t = { s with
              kneel := t.kneel, corners := t.corners, seq := t.seq, vehicle := t.vehicle, faults := t.faults } ∧ s.OnlyNotices t))
    ∧ (s.kneel.state = .raising → s.kneel.timeoutFlag = false → s.param 5 38 < ((s.kneel.timer + 1 : Nat) : Int) →
      ∃ t, exec .raisingTimeout s = .next t
        ∧ t.faultActive .kneelTimeout 0 ∧ t.kneel = { s.kneel with timer := s.kneel.timer + 1, timeoutFlag := true }
        ∧ t = { s with kneel := t.kneel, seq := t.seq, vehicle := t.vehicle, faults := t.faults } ∧ s.OnlyNotices t))

/-- CONFIRM_TIMEOUT, the confirm timer past its timeout in APPLYING, answers: HOLD-CONFIRM is raised, the flag set, state and
pressure kept. RAMP_END, the last of p_hold within the release rate, answers: the hold is RELEASED, p_hold 0, and the axles are
resolved without it. BRAKE_SATURATED, when the count brings an axle's saturation timer to the saturation time, answers: the timer
stands there and the fault is raised with the axle as subject. That these commands make their own count and no other cycle-start
work is the model's choice (assumption 10). A hold that leaves APPLYING keeps confirm timer and flag until the next entry: DEDUCED
(assumption 48). -/
def Obligations.HoldAndSaturationTimers : Prop :=
  (∀ s : State, s.part ≠ .config →
    (s.hold.state = .applying → s.hold.timeoutFlag = false → s.param 6 17 < ((s.hold.confirmTimer + 1 : Nat) : Int) →
      s.faults.list.length < 32 →
      ∃ t, exec .confirmTimeout s = .next t
        ∧ t.faultActive .holdConfirm 0
        ∧ t.hold = { s.hold with confirmTimer := s.hold.confirmTimer + 1, timeoutFlag := true }
        ∧ t = { s with hold := t.hold, seq := t.seq, vehicle := t.vehicle, faults := t.faults } ∧ s.OnlyNotices t)
    ∧ (s.hold.state = .releasing → s.hold.pressure ≤ s.param 6 19 →
      ∃ t, exec .rampEnd s = .next t
        ∧ t.hold = { s.hold with state := .released, pressure := 0 } ∧ t.axle.holdFlag = false
        ∧ (∀ a : Fin 3, t.axle.pressure[a]
            = min (max (max (driverPressure s a) 0) (guardTerm s a)) (s.param 6 (11 + a.val)))
        ∧ t = { s with hold := t.hold, axle := t.axle, seq := t.seq, vehicle := t.vehicle, faults := t.faults } ∧ s.OnlyNotices t))
  ∧ (∀ (a : Fin 3) (s : State), s.part ≠ .config → s.param 6 (11 + a.val) < s.axle.driver[a] → s.axle.satTimer[a] < 255 →
    ((s.axle.satTimer[a] + 1 : Nat) : Int) = s.param 6 20 → s.faults.list.length < 32 →
    ∃ t, exec (.brakeSaturated a) s = .next t
      ∧ t.axle = { s.axle with satTimer := s.axle.satTimer.set a (s.axle.satTimer[a] + 1) }
      ∧ t.faultActive .brakeSaturated a.val
      ∧ t = { s with axle := t.axle, seq := t.seq, vehicle := t.vehicle, faults := t.faults } ∧ s.OnlyNotices t)

/-- The resolution of the axle pressures in RUN and STOPPING: each axle's driver pressure from its load, its pressure the greatest
of the three demands within its maximum, the hold flag by the hold state; nothing but the axle record, the faults and the notices
changes. -/
def Obligations.AxlePressuresResolved : Prop :=
  ∀ s : State, s.part ≠ .config →
    let t := resolveAxles s
    (∀ a : Fin 3,
      let drv : Int := if s.axle.decel = 0 ∨ s.axle.backup = true then 0
        else s.param 6 (8 + a.val)
          - (-((s.loads[a].load * s.axle.decel / 100) * s.param 6 (2 + a.val) / 256)) / s.param 6 (5 + a.val)
      let hold : Int := if (s.raw 6 15).getLsbD a.val = true then s.hold.pressure else 0
      let guard : Int := if a = 2 ∧ s.joint.guard = 2 then s.param 4 36 else 0
      t.axle.driver[a] = drv ∧ t.axle.pressure[a] = min (max (max drv hold) guard) (s.param 6 (11 + a.val))
        ∧ (drv ≤ s.param 6 (11 + a.val) → t.axle.satTimer[a] = 0)
        ∧ (s.param 6 (11 + a.val) < drv → t.axle.satTimer[a] = s.axle.satTimer[a]))
    ∧ (t.axle.holdFlag = true ↔ s.hold.state = .applying ∨ s.hold.state = .confirmed ∨ s.hold.state = .releasing)
    ∧ t.axle.decel = s.axle.decel ∧ t.axle.backup = s.axle.backup
    ∧ t = { s with axle := t.axle, seq := t.seq, vehicle := t.vehicle, faults := t.faults } ∧ s.OnlyNotices t

/-- OPENING_TIMEOUT, CLOSING_TIMEOUT, WARNING_END and DWELL_END, when due, answer: a door past its opening or closing timeout is in
FAULT with DOOR-TIMEOUT raised, the end of the warning makes it CLOSING, and the end of the dwell makes it WARNING, or defers the
close while its LEVEL line is active. No other door changes. A timer past its time after a swap counts as come to its time
(assumption 26). That this command makes its own count and no other cycle-start work is the model's choice (assumption 10). A change
of the door's state keeps its pending release: DEDUCED (assumption 51). -/
def Obligations.DoorTimers : Prop :=
  ∀ (d : Fin 4) (s : State), s.part ≠ .config →
    let k := s.door d
    let gone : Door := { k with timer := 0, closeDeferred := false, tone := false }
    ((k.state = .opening ∨ k.state = .reversing) → s.motion.standstill = true → s.hold.state = .confirmed →
      s.param 7 (11 * d.val + 3) < ((k.timer + 1 : Nat) : Int) → s.faults.list.length < 32 →
      ∃ t, exec (.openingTimeout d) s = .next t
        ∧ t.doors = s.doors.set d { gone with state := .fault } ∧ t.faultActive .doorTimeout (d.val + 1)
        ∧ t = { s with doors := t.doors, seq := t.seq, vehicle := t.vehicle, faults := t.faults } ∧ s.OnlyNotices t)
    ∧ (k.state = .closing → s.param 7 (11 * d.val + 4) < ((k.timer + 1 : Nat) : Int) → s.faults.list.length < 32 →
      ∃ t, exec (.closingTimeout d) s = .next t
        ∧ t.doors = s.doors.set d { gone with state := .fault } ∧ t.faultActive .doorTimeout (d.val + 1)
        ∧ t = { s with doors := t.doors, seq := t.seq, vehicle := t.vehicle, faults := t.faults } ∧ s.OnlyNotices t)
    ∧ (k.state = .warning → s.param 7 (11 * d.val + 5) ≤ ((k.timer + 1 : Nat) : Int) →
      ∃ t, exec (.warningEnd d) s = .next t
        ∧ t.doors = s.doors.set d { gone with state := .closing }
        ∧ t = { s with doors := t.doors, seq := t.seq, vehicle := t.vehicle } ∧ s.OnlyNotices t)
    ∧ (k.state = .openState → s.param 7 (11 * d.val + 6) ≠ 0 → (k.reversals : Int) < s.param 7 (11 * d.val + 7) →
      k.closeDeferred = false → s.param 7 (11 * d.val + 6) ≤ ((k.timer + 1 : Nat) : Int) →
      ∃ t, exec (.dwellEnd d) s = .next t
        ∧ t.doors = s.doors.set d
            (if s.tableValid 7 = true ∧ s.param 7 (11 * d.val + 9) = 1 ∧ s.edges[d].filtered = true then
              { k with timer := k.timer + 1, closeDeferred := true }
            else { gone with state := .warning, tone := true })
        ∧ t = { s with doors := t.doors, seq := t.seq, vehicle := t.vehicle } ∧ s.OnlyNotices t)

/-- EDGE_LINE_CHANGE answers: the raw level is the pin's; on a watched line the filter timer starts from 0 when the level first
stands apart from the filtered level and stops when it returns to it. EDGE_FILTER_EXPIRY of a running filter answers: the filtered
level changes; an activation sends a WARNING door back to OPEN and reverses a CLOSING one, counting the reversal, with DOOR-
OBSTRUCTION at the limit; the release of a LEVEL line takes up a deferred close. With no filter running it changes nothing. A filter
that expires whenever it runs is the model's choice (assumption 12); so is a pin that, while T7 is EMPTY, changes its raw level
alone (assumption 9). A change of the door's state keeps its pending release: DEDUCED (assumption 51). -/
def Obligations.EdgeLines : Prop :=
  ∀ (d : Fin 4) (s : State),
    let e := s.edges[d]
    let k := s.door d
    (∀ high : Bool, exec (.edgeLineChange d high) s = .next (s.setEdges (s.edges.set d
      (if s.tableValid 7 = false then { e with high := high }
      else if (if s.param 7 (11 * d.val + 8) = 0 then high else !high) = e.filtered then
        { e with high := high, running := false, timer := 0 }
      else { e with high := high, running := true, timer := if e.running = true then e.timer else 0 }))))
    ∧ ((s.tableValid 7 = false ∨ e.running = false) → exec (.edgeFilterExpiry d) s = .next s)
    ∧ (s.tableValid 7 = true → e.running = true → s.faults.list.length < 32 →
      let gone : Door := { k with timer := 0, closeDeferred := false, tone := false }
      ∃ t, exec (.edgeFilterExpiry d) s = .next t
        ∧ t.edges = s.edges.set d { e with filtered := !e.filtered, running := false, timer := 0 }
        ∧ t = { s with edges := t.edges, doors := t.doors, seq := t.seq, vehicle := t.vehicle, faults := t.faults } ∧ s.OnlyNotices t
        ∧ (s.part = .config → t.doors = s.doors)
        ∧ (s.part ≠ .config → e.filtered = false →
          (k.state = .closing → t.doors = s.doors.set d
              { gone with state := .reversing, reversals := if k.reversals < 7 then k.reversals + 1 else k.reversals }
            ∧ ((k.reversals : Int) < s.param 7 (11 * d.val + 7) →
              s.param 7 (11 * d.val + 7) ≤ ((k.reversals + 1 : Nat) : Int) →
              t.faultActive .doorObstruction (d.val + 1)))
          ∧ (k.state = .warning → t.doors = s.doors.set d { gone with state := .openState })
          ∧ (k.state = .openState → t.doors = s.doors.set d { k with timer := 0 })
          ∧ (k.state ≠ .closing → k.state ≠ .warning → k.state ≠ .openState → t.doors = s.doors))
        ∧ (s.part ≠ .config → e.filtered = true → t.doors =
          if s.param 7 (11 * d.val + 9) = 1 ∧ k.state = .openState ∧ k.closeDeferred = true then
            s.doors.set d { gone with state := .warning, tone := true }
          else s.doors))

/-! ### Reports of the signal store at a command -/

/-- A batch that reports WHEEL-SPEED recomputes the speed: VALID with two usable records or more, the greatest of their values
within 0..15000, else LOST and 0; the standstill flag and timer follow the table of R47. A batch of nothing else that leaves speed,
status and flag as they were changes no more. In RUN and STOPPING, of nothing else and with no entry into CONFIG: a loss of the
speed raises SPEED-LOST and sets the rear target to 0, a change of the motion state sets the lock latch by speed and steering
level, and the clearing of standstill turns a kneel under way to LEVEL with its claim gone where its corners already meet the
raising test, and to RAISING where they do not. The readers are served in the order of R45's table, SPEED-LOST after them: DEDUCED
(assumption 20). -/
def Obligations.SpeedReported : Prop :=
  ∀ (c : Instr) (l : List SigReport) (s u : State), Reported s c l u →
    (∃ x ∈ l, x.role = .wheelSpeed) → (s.tab 1).pendingSwap = false → 0 ≤ s.param 8 18 →
    let speeds := wheelSpeeds u
    let m := s.motion
    let low := s.param 8 17
    let high := low + s.param 8 18
    let alone := ∀ x ∈ l, x.role = .wheelSpeed
    ∃ t, exec c s = .next t
      ∧ (speeds.length < 2 → t.motion = { speed := 0, status := .lost, standstill := false, timer := 0 })
      ∧ (2 ≤ speeds.length →
        t.motion.status = .valid ∧ (∃ x ∈ speeds, t.motion.speed = max 0 (min x 15000))
        ∧ (∀ x ∈ speeds, min x 15000 ≤ t.motion.speed)
        ∧ (high < t.motion.speed ∨ low < t.motion.speed ∧ m.standstill = false →
          t.motion.standstill = false ∧ t.motion.timer = 0)
        ∧ (t.motion.speed ≤ low ∨ t.motion.speed ≤ high ∧ m.standstill = true →
          t.motion.standstill = m.standstill ∧ t.motion.timer = m.timer))
      ∧ (alone → t.motion.speed = m.speed → t.motion.status = m.status → t.motion.standstill = m.standstill →
        t = u.setMotion t.motion)
      ∧ (alone → s.part ≠ .config → t.part ≠ .config → s.FaultsSound → s.faults.list.length ≤ 24 →
        (m.status = .valid → t.motion.status = .lost →
          t.faultActive .speedLost 0 ∧ (s.rear.state ≠ .parked → t.rear.target = 0))
        ∧ (m.status = .lost → t.motion.status = .valid → ¬ t.faultActive .speedLost 0)
        ∧ (s.rear.state ≠ .parked →
          (t.motion.speed ≠ m.speed ∨ t.motion.status ≠ m.status ∨ t.motion.standstill ≠ m.standstill) →
          t.rear.latch =
            (if t.motion.status = .valid ∧ s.param 3 199 ≤ t.motion.speed then true
            else if t.motion.status = .valid ∧ t.motion.speed < s.param 3 199 - s.param 3 200
              ∧ t.faults.levels.steering = .full then false
            else s.rear.latch))
        ∧ (m.standstill = true → t.motion.standstill = false →
          (s.kneel.state = .waitHold ∨ s.kneel.state = .lowering ∨ s.kneel.state = .knelt) →
          t.kneel.state = (if raisingDone u = true then .level else .raising) ∧ t.kneel.timer = 0
          ∧ t.kneel.timeoutFlag = false ∧ (raisingDone u = true → t.claims .kneel = false)))

/-- The target that the map of an accepted T3 gives lies within the limit at the speed, and the limit within 0..2000. The resolution
of the rear-steer state gives the first line of its table that holds and changes nothing else. In RUN and STOPPING, a batch of
FRONT-ANGLE and REAR-ACTUAL reports alone: the state is resolved; the command stays; the target is recomputed where FRONT-ANGLE is
reported or the steering level changes, and stays otherwise; the latch is evaluated where the level changes. FRONT-ANGLE-LOST and
REAR-ACTUAL-LOST are raised when their record becomes unusable, and their causes end when it is usable. An unusable REAR-ACTUAL does
not by itself make the target 0 (assumption 45); the angles' faults come after both recomputations (assumption 46). -/
def Obligations.RearAnglesReported : Prop :=
  (∀ (vals : List Val) (v df gamma : Int), BankSound 3 vals →
    let p := fun k => (vals.getD k 0#16).toInt
    0 ≤ steerLimit p v ∧ steerLimit p v ≤ 2000
    ∧ -steerLimit p v ≤ mapTarget p v df gamma ∧ mapTarget p v df gamma ≤ steerLimit p v)
  ∧ (∀ s : State, s.rear.state ≠ .parked →
    (resolveRear s).SteeringResolved ∧ resolveRear s = s.setRear { s.rear with state := (resolveRear s).rear.state })
  ∧ (∀ (c : Instr) (l : List SigReport) (s u : State), Reported s c l u → s.part ≠ .config → s.rear.state ≠ .parked →
    s.FaultsSound → s.faults.list.length ≤ 24 → l ≠ [] → (∀ x ∈ l, x.role = .frontAngle ∨ x.role = .rearActual) →
    let front := ∃ x ∈ l, x.role = .frontAngle
    let r := s.rear
    ∃ t, exec c s = .next t
      ∧ t.SteeringResolved ∧ t.rear.command = r.command
      ∧ (let changed := t.faults.levels.steering ≠ s.faults.levels.steering;
        (front ∨ changed → t.TargetFollows)
        ∧ (¬ front → ¬ changed → t.rear.target = r.target)
        ∧ (¬ changed → t.rear.latch = r.latch ∧ t.rear.trackTimer = r.trackTimer)
        ∧ (changed → t.faults.levels.steering = .safe → t.rear.trackTimer = 0)
        ∧ (changed → (∀ x ∈ l, x.role = .frontAngle) ∨ (∀ x ∈ l, x.role = .rearActual) → t.rear.latch =
          (if s.motion.status = .valid ∧ s.param 3 199 ≤ s.motion.speed then true
          else if s.motion.status = .valid ∧ s.motion.speed < s.param 3 199 - s.param 3 200
            ∧ t.faults.levels.steering = .full then false
          else r.latch)))
      ∧ (∀ x : SigReport, reportFor .frontAngle l = some x →
        (u.usable .frontAngle = true → ¬ t.faultActive .frontAngleLost 0)
        ∧ (u.usable .frontAngle = false → x.was = true → t.faultActive .frontAngleLost 0 ∧ t.rear.target = 0))
      ∧ (∀ x : SigReport, reportFor .rearActual l = some x →
        (u.usable .rearActual = true → t.causeEnded .rearActualLost 0)
        ∧ (u.usable .rearActual = false → x.was = true →
          t.faultActive .rearActualLost 0 ∧ t.rear.state = .locked
          ∧ (s.faults.levels.steering ≠ .safe → t.faults.levels.steering = .safe ∧ t.rear.target = 0)))
      ∧ t = { u with rear := t.rear, corners := t.corners, seq := t.seq, vehicle := t.vehicle, faults := t.faults } ∧ u.OnlyNotices t)

/-- In RUN and STOPPING, a batch that reports JOINT-ANGLE and no WHEEL-SPEED, and that does not end in CONFIG: an accepted sample
joins the history with its cycle number and gives the rate, a change of status alone keeps or empties them; the guard rises by its
three tests while it watches and is 0 else; damper and torque limit follow the tables of R69 and R75 at the level that then holds,
and the drive record takes the limit. A batch that ends STOPPING by confirming the hold leaves the record at its reset values. -/
def Obligations.JointReported : Prop :=
  ∀ (c : Instr) (l : List SigReport) (s u : State) (x : SigReport), Reported s c l u →
    (∀ y ∈ l, y.role ≠ .wheelSpeed) → reportFor .jointAngle l = some x → s.part ≠ .config → s.FaultsSound →
    s.drive.torque = s.joint.torque →
    let angle := u.value .jointAngle
    let usable := u.usable .jointAngle
    let j := s.joint
    ∃ t, exec c s = .next t ∧ (t.part ≠ s.part → t.part = .config ∧ t.joint = Joint.reset) ∧ (t.part = s.part →
      (x.accepted = true → t.joint.history = { value := angle, cycle := s.cycle } :: j.history.take 1
        ∧ (j.history = [] → t.joint.rate = 0)
        ∧ ∀ (o : JointSample) (rest : List JointSample), j.history = o :: rest →
          let n := (s.cycle - o.cycle).toNat
          t.joint.rate = max (-32767) (min 32767 ((angle - o.value).tdiv (if n = 0 then 1 else n))))
      ∧ (x.accepted = false → (u.role .jointAngle).status = .held → t.joint.history = j.history ∧ t.joint.rate = j.rate)
      ∧ (x.accepted = false → (u.role .jointAngle).status = .substituted ∨ (u.role .jointAngle).status = .lost →
        t.joint.history = [] ∧ t.joint.rate = 0)
      ∧ (let watching := s.motion.status = .valid ∧ s.motion.standstill = false ∧ usable = true ∧ t.faults.levels.joint = .full
        let start := if s.faults.levels.joint = .full then j.guard else 0
        let beyond := mag angle - interpolateAt (s.param 4) (fun i => s.param 4 (18 + i)) s.motion.speed
        let first := if start = 0 ∧ 0 < beyond then 1 else start
        let second := if first ≤ 1 ∧ s.param 4 29 < beyond then 2 else first
        let folding := (0 < angle ∧ 0 < t.joint.rate ∨ angle < 0 ∧ t.joint.rate < 0) ∧ s.param 4 30 < mag t.joint.rate;
        (¬ watching → t.joint.guard = 0 ∧ t.joint.guardTimer = 0)
        ∧ (watching → t.joint.guard = if second = 1 ∧ folding then 2 else second)
        ∧ (watching → j.guard < t.joint.guard → t.joint.guardTimer = 0)
        ∧ (t.joint.guard = 2 → j.guard < 2 → s.faults.list.length ≤ 24 → t.faultActive .guard2 0))
      ∧ (let level := t.faults.levels.joint
        let gain := if s.motion.status = .lost ∨ level = .reduced then greatestGain s
          else interpolateAt (s.param 4) (fun i => s.param 4 (9 + i)) s.motion.speed
        ((usable = false ∨ level = .safe) → t.joint.damper = s.param 4 28 ∧ t.joint.mode = .stiff)
        ∧ (usable = true → level ≠ .safe →
          t.joint.damper = clamp (s.param 4 27) (s.param 4 28) (s.param 4 27 + gain * mag t.joint.rate / 16)
          ∧ t.joint.mode = .normal)
        ∧ t.joint.torque =
          (if usable = false ∨ s.motion.status = .lost ∨ level ≠ .full then s.param 4 35
          else if t.joint.guard = 2 then s.param 4 34
          else if t.joint.guard = 1 then s.param 4 33
          else 1000)
        ∧ t.drive.torque = t.joint.torque))

/-- A RESERVOIR report in RUN and STOPPING grades the air by the level held before and the pressure, with 20 kPa of hysteresis on
the way up alone; no corner fills after it while the level is RESERVE. At a command whose batch reports RESERVOIR and BELLOWS
records alone: the air is so graded; a settled corner in HOLD takes its usable BELLOWS value as load pressure, any other keeps its
own; the load of an axle with a corner reported is estimated from its two corners, or falls back; a BELLOWS record that becomes
unusable raises BELLOWS-LOST. Where a load changed the axles are resolved with all the new loads, and a saturation ends only at an
axle that these bring within its maximum; where none changed the axle record stays. A settled corner gives its load pressure
whether or not it is suspended: DEDUCED (assumption 28); the reports of one frame are one event of the height unit, its loads
reported once at the end: DESIGN CHOICE (assumption 56). -/
def Obligations.AirAndLoadsReported : Prop :=
  let graded := fun (s t : State) =>
    (s.usable .reservoir = false → t.air = { s.air with level := .unknown })
    ∧ (s.usable .reservoir = true →
      let p := clamp 0 1500 (s.value .reservoir)
      let up : Int := if s.air.level = .restricted ∨ s.air.level = .reserve then 20 else 0
      let upReserve : Int := if s.air.level = .reserve then 20 else 0
      t.air.pressure = p
      ∧ (s.param 5 0 + up ≤ p → t.air.level = .normal)
      ∧ (p < s.param 5 0 + up → s.param 5 1 + upReserve ≤ p → t.air.level = .restricted)
      ∧ (p < s.param 5 0 + up → p < s.param 5 1 + upReserve → t.air.level = .reserve))
    ∧ (t.air.level = .reserve → ∀ c : Fin 6, (t.corner c).valve ≠ .filling)
  (∀ s : State, s.part ≠ .config → graded s (airReport s))
  ∧ (∀ (c : Instr) (l : List SigReport) (s u : State), Reported s c l u → s.part ≠ .config →
    (∀ x ∈ l, x.role = .reservoir ∨ ∃ c : Fin 6, x.role = .bellows c) →
    ∃ t, exec c s = .next t
      ∧ ((∃ x ∈ l, x.role = .reservoir) → graded u t)
      ∧ (∀ c : Fin 6,
        let taken := (∃ x ∈ l, x.role = .bellows c) ∧ u.usable (.bellows c) = true ∧ (s.corner c).valve = .hold
          ∧ (s.corner c).settle = 0
        (taken → (t.corner c).loadPressure = some (clamp 0 1000 (u.value (.bellows c))))
        ∧ (¬ taken → (t.corner c).loadPressure = (s.corner c).loadPressure)
        ∧ ((∃ x ∈ l, x.role = .bellows c ∧ x.was = true) → u.usable (.bellows c) = false → s.faults.list.length ≤ 24 →
          l.length = 1 → t.faultActive .bellowsLost c.val))
      ∧ (t.loads ≠ s.loads → t.AxlesResolved)
      ∧ ∀ a : Fin 3,
        let left : Fin 6 := leftCorner a
        let right : Fin 6 := rightCorner a
        let fallback := if s.tableValid 5 = true then s.param 5 (29 + a.val) else 20000
        ((∀ x ∈ l, x.role ≠ .bellows left ∧ x.role ≠ .bellows right) → t.loads[a] = s.loads[a])
        ∧ ((∃ x ∈ l, x.role = .bellows left ∨ x.role = .bellows right) →
          (∀ pl pr : Int, u.usable (.bellows left) = true → u.usable (.bellows right) = true →
            (t.corner left).loadPressure = some pl → (t.corner right).loadPressure = some pr →
            t.loads[a] =
              { load := clamp (s.param 5 (26 + a.val)) (s.param 5 (29 + a.val))
                  (s.param 5 (20 + a.val) + (pl + pr) * s.param 5 (23 + a.val) / 100)
                status := .estimated })
          ∧ ((u.usable (.bellows left) = false ∨ u.usable (.bellows right) = false ∨ (t.corner left).loadPressure = none
              ∨ (t.corner right).loadPressure = none) → t.loads[a] = { load := fallback, status := .fallback }))
        ∧ (t.loads = s.loads → t.axle = s.axle)
        ∧ (t.loads ≠ s.loads →
          (t.axle.driver[a] ≤ s.param 6 (11 + a.val) → t.axle.satTimer[a] = 0)
          ∧ (s.param 6 (11 + a.val) < t.axle.driver[a] → t.axle.satTimer[a] = s.axle.satTimer[a]
            ∧ (s.faultActive .brakeSaturated a.val → t.faultActive .brakeSaturated a.val))))

/-- In RUN and STOPPING, a batch of DRIVER-DECEL reports alone: D is the value within 0 and Dmax, 0 at or below the deadband and
where the record is unusable; the backup flag is set while the record is unusable or the brake level SAFE; a record that becomes
unusable raises DEMAND-LOST, and the level is SAFE; a usable one ends its cause, and the level stays, the code being latched; the
axles are resolved, and an axle within its maximum has its saturation at an end. Nothing else changes but for the notices, which
join the vehicle port's transmit queue or are counted there as dropped. -/
def Obligations.DecelReported : Prop :=
  ∀ (c : Instr) (l : List SigReport) (s u : State) (x : SigReport), Reported s c l u → s.part ≠ .config → s.FaultsSound →
    s.faults.list.length ≤ 24 → (∀ y ∈ l, y.role = .driverDecel) → reportFor .driverDecel l = some x →
    let usable := u.usable .driverDecel
    let v := clamp 0 (s.param 6 0) (u.value .driverDecel)
    ∃ t, exec c s = .next t
      ∧ (usable = false ∨ v ≤ s.param 6 1 → t.axle.decel = 0)
      ∧ (usable = true → s.param 6 1 < v → t.axle.decel = v)
      ∧ (t.axle.backup = true ↔ usable = false ∨ t.faults.levels.brake = .safe)
      ∧ (usable = true → t.causeEnded .demandLost 0 ∧ t.faults.levels.brake = s.faults.levels.brake)
      ∧ (usable = false → x.was = true → t.faultActive .demandLost 0 ∧ t.faults.levels.brake = .safe)
      ∧ t.AxlesResolved
      ∧ (∀ a : Fin 3,
        (t.axle.driver[a] ≤ s.param 6 (11 + a.val) →
          t.axle.satTimer[a] = 0 ∧ (s.axle.satTimer[a] ≠ 0 → ¬ t.faultActive .brakeSaturated a.val))
        ∧ (s.param 6 (11 + a.val) < t.axle.driver[a] →
          t.axle.satTimer[a] = s.axle.satTimer[a]))
      ∧ t = { u with axle := t.axle, seq := t.seq, vehicle := t.vehicle, faults := t.faults } ∧ u.OnlyNotices t

/-- In RUN and STOPPING, a batch of HEIGHT reports alone: each usable one gives its corner the height, the error against the target
and no freeze for HEIGHT-LOST, one that becomes unusable freezes it in HOLD and raises HEIGHT-LOST. With a kneel corner among them:
a LOWERING kneel is KNELT when every kneel corner is usable and within the tolerance of its kneel target, or is raised from there
where raise on drive is ON and the drive asked; a RAISING one LEVEL with its claim gone when every kneel corner is usable and above
its ride target less the kneel clear; otherwise the kneel stays. The timeout flag is kept at LEVEL: DEDUCED (assumption 24). Where
the kneel stays and nothing is suspended, a corner not frozen whose sample is accepted decides: a run ends in its band past the
minimum pulse and goes on otherwise; a wait ends at half the deadband; a settled corner in HOLD at standstill, or under the kneel,
asks for a fill or exhausts outside the deadband, and in motion starts its persistence again where the direction differs. A slot
that one report frees may be granted in the same batch (assumption 56); persistence at standstill is kept, and the direction also
where a run begins there (assumption 63). -/
def Obligations.HeightAndKneelReported : Prop :=
  ∀ (c : Instr) (l : List SigReport) (s u : State), Reported s c l u → s.part ≠ .config →
    (∀ x ∈ l, ∃ k : Fin 6, x.role = .height k) →
    let k := s.kneel
    ∃ t, exec c s = .next t
      ∧ (∀ n : Fin 6,
        ((∃ x ∈ l, x.role = .height n) → u.usable (.height n) = true →
          (t.corner n).height = u.value (.height n) ∧ (t.corner n).frozenHeight = false
          ∧ (t.corner n).error = clamp (-32767) 32767 ((t.corner n).target - (t.corner n).height))
        ∧ ((∀ x ∈ l, x.role ≠ .height n) → (t.corner n).height = (s.corner n).height)
        ∧ (∀ x : SigReport, l = [x] → x.role = .height n → x.was = true → u.usable (.height n) = false →
          s.faults.list.length < 32 →
          (t.corner n).frozenHeight = true ∧ (t.corner n).height = (s.corner n).height ∧ t.faultActive .heightLost n.val
          ∧ ((s.corner n).frozen = false → (t.corner n).valve = .hold)))
      ∧ (let lowered := ∀ n : Fin 6, (s.raw 5 9).getLsbD n.val = true →
          u.usable (.height n) = true
          ∧ mag ((t.corner n).height - (s.param 5 (3 + n.val) - s.param 5 10)) ≤ s.param 5 35
        let raised := ∀ n : Fin 6, (s.raw 5 9).getLsbD n.val = true →
          u.usable (.height n) = true ∧ s.param 5 (3 + n.val) - s.param 5 36 ≤ (t.corner n).height
        let reported := ∃ x ∈ l, ∃ n : Fin 6, x.role = .height n ∧ (s.raw 5 9).getLsbD n.val = true;
        (reported → k.state = .lowering → lowered → (s.param 5 34 ≠ 1 ∨ driveAsked u = false) →
          t.kneel = { k with state := .knelt, timer := 0 })
        ∧ (reported → k.state = .lowering → lowered → s.param 5 34 = 1 → driveAsked u = true →
          t.kneel.timer = 0 ∧ t.kneel.timeoutFlag = false
          ∧ (raised → t.kneel.state = .level ∧ t.claims .kneel = false) ∧ (¬ raised → t.kneel.state = .raising))
        ∧ (reported → k.state = .raising → raised →
          t.kneel = { k with state := .level, timer := 0 } ∧ t.claims .kneel = false)
        ∧ ((¬ reported ∨ k.state = .lowering ∧ ¬ lowered ∨ k.state = .raising ∧ ¬ raised
          ∨ k.state ≠ .lowering ∧ k.state ≠ .raising) → t.kneel = k))
      ∧ (t.kneel.state = k.state → suspended s = false → s.faults.list.length ≤ 24 → ∀ n : Fin 6,
        let o := s.corner n
        let x := t.corner n
        let half := s.param 5 11 / 2
        let under := (s.raw 5 9).getLsbD n.val = true ∧ k.state.lowered = true
        let settled := o.valve = .hold ∧ o.settle = 0
        let ended := s.param 5 15 ≤ (o.pulse : Int)
          ∧ (o.valve = .filling ∧ x.error ≤ half ∨ o.valve = .exhausting ∧ -half ≤ x.error)
        let taken := { o with height := x.height, error := x.error, frozenHeight := false }
        ((∀ y ∈ l, y.role ≠ .height n) → (o.valve = .hold ∨ o.valve = .exhausting) → x = o)
        ∧ (u.usable (.height n) = true → o.frozenTimeout = false → o.frozenKneel = false → 1 ≤ s.param 5 16 → 0 ≤ s.param 5 15 →
          0 ≤ s.param 5 11 →
          (∀ y : SigReport, reportFor (.height n) l = some y → y.accepted = true →
            (ended → x = { taken with valve := .hold, pulse := 0, run := 0, settle := (s.param 5 16).toNat })
            ∧ (o.valve = .exhausting → ¬ ended → x = taken)
            ∧ (o.valve = .filling → ¬ ended → x.valve = .filling ∨ x.valve = .waitFill)
            ∧ (o.valve = .hold → 0 < o.settle → x = taken)
            ∧ (settled → (under ∨ s.motion.standstill = true) →
              (s.param 5 11 < x.error → x.valve = .waitFill ∨ x.valve = .filling)
              ∧ (x.error < -s.param 5 11 →
                x = { taken with valve := .exhausting, pulse := 0, run := 0, runStart := x.height, persist := 0 })
              ∧ (-s.param 5 11 ≤ x.error → x.error ≤ s.param 5 11 → x = taken))
            ∧ (settled → ¬ under → s.motion.standstill = false →
              let dir := movingDir (s.param 5 12) x.error
              x = if dir = .none ∨ dir ≠ o.dir then { taken with persist := 0, dir := .none } else taken))
          ∧ ((∃ y ∈ l, y.role = .height n) → o.valve = .waitFill →
            (x.error ≤ half → x = { taken with valve := .hold, settle := 0 })
            ∧ (half < x.error → x.valve = .waitFill ∨ x.valve = .filling))))

/-- In RUN and STOPPING, a batch of reports of one kind alone. BRAKE-ACTUAL of an axle of the hold mask in APPLYING: with every axle
of the mask at the confirming pressure the hold is CONFIRMED with p_h and STARTUP gone, each door that waits makes its gate test, and
a kneel in WAIT-HOLD is LOWERING, or KNELT where its corners are down; or, in STOPPING, the part is in CONFIG. With one axle short
nothing changes beside the store. DRIVE-REQUEST: a KNELT kneel is raised when the drive is asked and raise on drive ON, and stays
otherwise; an APPLYING or CONFIRMED hold without claims is RELEASING, from the pressure it holds, when the drive is asked, and stays
when it is not; a RELEASING one is applied again at standstill when the drive is no longer asked; a RELEASED or PENDING one stays.
A hold that leaves APPLYING keeps confirm timer and flag: DEDUCED (assumption 48). -/
def Obligations.HoldReported : Prop :=
  ∀ (c : Instr) (l : List SigReport) (s u : State), Reported s c l u → s.part ≠ .config →
    let h := s.hold
    let met := ∀ a : Fin 3, (s.raw 6 15).getLsbD a.val = true →
      u.usable (.brakeActual a) = true ∧ s.param 6 14 * s.param 6 16 ≤ 1000 * u.value (.brakeActual a)
    let asked := u.usable .driveRequest = true ∧ s.param 6 18 ≤ u.value .driveRequest
    let raiseOnDrive := s.param 5 34 = 1 ∧ asked
    let raises := s.kneel.state = .knelt ∧ raiseOnDrive
    let raised := fun t : State => t.kneel.timer = 0 ∧ t.kneel.timeoutFlag = false
      ∧ (raisingDone u = true → t.kneel.state = .level ∧ t.claims .kneel = false)
      ∧ (raisingDone u = false → t.kneel.state = .raising)
    ((∀ x ∈ l, ∃ a : Fin 3, x.role = .brakeActual a) →
      (∃ x ∈ l, ∃ a : Fin 3, x.role = .brakeActual a ∧ (s.raw 6 15).getLsbD a.val = true) →
      ∃ t, exec c s = .next t
        ∧ (h.state ≠ .applying ∨ ¬ met → t = u)
        ∧ (h.state = .applying → met → s.part = .run → (s.kneel.state ≠ .waitHold ∨ loweringDone u = false) →
          t.claims .startup = false ∧ t.hold.pressure = s.param 6 14
          ∧ t.hold.state =
            (if s.claims .startup = true ∧ (∀ x ∈ s.holdSet, x.holder = .startup) ∧ asked then .releasing else .confirmed))
        ∧ (h.state = .applying → met → s.part = .run →
          (s.kneel.state ≠ .waitHold → t.kneel = s.kneel)
          ∧ (s.kneel.state = .waitHold → loweringDone u = false →
            t.kneel = { s.kneel with state := .lowering, timer := 0 })
          ∧ (s.kneel.state = .waitHold → loweringDone u = true → ¬ raiseOnDrive →
            t.kneel = { s.kneel with state := .knelt, timer := 0 })
          ∧ (s.kneel.state = .waitHold → loweringDone u = true → raiseOnDrive → raised t))
        ∧ (h.state = .applying → met → s.part = .run → s.kneel.state ≠ .waitHold → ∀ d : Fin 4,
          let opens := (s.door d).state = .releaseWait ∧ s.motion.standstill = true ∧ t.hold.state = .confirmed
            ∧ gateOf t d = true
          (opens → (t.door d).timer = 0
            ∧ (t.door d).state = match (s.door d).mode with | .cabOpen => .opening | .passenger => .released)
          ∧ (¬ opens → t.door d = s.door d))
        ∧ (h.state = .applying → met → s.part = .stopping → t.part = .config ∧ t.hold = Hold.reset))
    ∧ (l ≠ [] → (∀ x ∈ l, x.role = .driveRequest) →
      ∃ t, exec c s = .next t
        ∧ (raises → raised t)
        ∧ (¬ raises → s.kneel.state ≠ .waitHold → t.kneel = s.kneel)
        ∧ ((¬ raises ∨ raisingDone u = false) →
          ((h.state = .applying ∨ h.state = .confirmed) → s.holdSet = [] → asked →
            t.hold = { h with state := .releasing } ∧ t.claims .startup = false)
          ∧ ((h.state = .applying ∨ h.state = .confirmed) → (s.holdSet ≠ [] ∨ ¬ asked) → t.hold = h)
          ∧ (h.state = .releasing → s.motion.standstill = true → ¬ asked → s.part = .run → s.kneel.state ≠ .waitHold →
            t.hold = { state := if met then .confirmed else .applying, pressure := s.param 6 14, confirmTimer := 0
                       timeoutFlag := false })
          ∧ (h.state = .releasing → (s.motion.standstill = false ∨ asked) → t.hold = h)
          ∧ ((h.state = .released ∨ h.state = .pending) → t.hold = h)))

/-- A report of one door's record alone, at its command. DOOR-POSITION, usable: the position in use follows; in CONFIG the door
follows it, LOCKED or OPEN; in RUN and STOPPING each state takes the position as its rules give, and a LOCKED door on a moving bus
that is not closed is in FAULT with DOOR-MOVING. Lost: UNKNOWN in CONFIG; else a door in any state but UNKNOWN and EMERGENCY is in
FAULT with DOOR-POSITION-LOST, its pending release kept (assumption 51). DOOR-BUTTON: the last value follows, and a press acts
outside CONFIG alone. DOOR-EMERGENCY: the last value follows; outside CONFIG a pull makes the door EMERGENCY with its fault, a
return takes it out by its position record. A door that becomes LOCKED has lost its claim, one in any other new state holds it.
Where that changes whether all four are LOCKED, the rear-steer state is resolved, its command kept; and with auto-raise ON, all
four LOCKED raise a kneel that is LOWERING or KNELT, to LEVEL where its corners already meet the raising test. The claim of a door
that leaves LOCKED in STOPPING may confirm the hold and so end in CONFIG, where the door follows its position record. A button or
handle value other than 0 counts as 1: DEDUCED (assumption 35). A handle returned over a lost position raises no fault: DEDUCED
(assumption 36). -/
def Obligations.DoorsReported : Prop :=
  ∀ (c : Instr) (s u : State) (d : Fin 4) (x : SigReport), Reported s c [x] u → s.DoorsHeld →
    s.faults.list.length < 32 →
    let k := s.door d
    let enters := fun (k : Door) (new : DoorState) =>
      { k with state := new, timer := 0, closeDeferred := false, tone := decide (new = .warning ∨ new = .emergency) }
    let locked := fun k : Door => { enters k .locked with reversals := 0 }
    let works := fun t : State => s.part ≠ .config ∧ t.part = s.part
    let claimed := fun t : State =>
      (t.part ≠ s.part → s.part = .stopping ∧ t.part = .config ∧ k.state = .locked
        ∧ (s.hold.state = .releasing ∨ s.hold.state = .released ∧ s.motion.standstill = true)
        ∧ (t.door d).state = (if u.usable (.doorPosition d) = false then .unknown
          else if u.value (.doorPosition d) = 1 then .locked else .openState))
      ∧ ((t.door d).state ≠ .locked → t.claims (.door d) = true)
      ∧ (k.state ≠ .locked → (t.door d).state = .locked → t.claims (.door d) = false)
      ∧ (s.FaultsSound → s.rear.state ≠ .parked → t.part = s.part → t.rear.command = s.rear.command
        ∧ (t.allLocked ≠ s.allLocked → t.SteeringResolved))
      ∧ (works t → s.allLocked = false → t.allLocked = true → s.param 5 33 = 1 →
        (s.kneel.state = .lowering ∨ s.kneel.state = .knelt) →
        t.kneel.state = (if raisingDone u = true then .level else .raising) ∧ t.kneel.timer = 0 ∧ t.kneel.timeoutFlag = false)
    (x.role = .doorPosition d → u.usable (.doorPosition d) = true →
      let v := u.value (.doorPosition d)
      let pos : DoorPos := if v = 1 then .closedLocked else if v = 2 then .closedUnlocked else if v = 4 then .fullyOpen else .between
      let k1 : Door := { k with position := pos }
      ∃ t, exec c s = .next t
        ∧ (s.part = .config → pos = .closedLocked → t.door d = if k.state = .locked then k1 else locked k1)
        ∧ (s.part = .config → pos ≠ .closedLocked → t.door d = if k.state = .openState then k1 else enters k1 .openState)
        ∧ (works t →
          (pos = .closedLocked →
            (k.state = .unknown ∨ k.state = .openState ∨ k.state = .closing ∨ k.state = .fault) → t.door d = locked k1)
          ∧ (k.state = .unknown → pos ≠ .closedLocked → t.door d = enters k1 .openState)
          ∧ ((k.state = .opening ∨ k.state = .reversing) →
            t.door d = if pos = .fullyOpen then enters k1 .openState else k1)
          ∧ ((k.state = .openState ∨ k.state = .closing ∨ k.state = .fault) → pos ≠ .closedLocked → t.door d = k1)
          ∧ ((k.state = .releaseWait ∨ k.state = .released ∨ k.state = .warning ∨ k.state = .emergency) → t.door d = k1)
          ∧ (k.state = .locked → (s.motion.standstill = true ∨ pos = .closedLocked) → t.door d = k1)
          ∧ (k.state = .locked → s.motion.standstill = false → pos ≠ .closedLocked →
            t.door d = { enters k1 .fault with pendingRelease := false } ∧ t.faultActive .doorMoving (d.val + 1)))
        ∧ claimed t)
    ∧ (x.role = .doorPosition d → u.usable (.doorPosition d) = false → x.was = true →
      ∃ t, exec c s = .next t
        ∧ (s.part = .config → t.door d = if k.state = .unknown then k else enters k .unknown)
        ∧ (works t → (k.state = .unknown ∨ k.state = .emergency) → t.door d = k)
        ∧ (works t → k.state ≠ .unknown → k.state ≠ .emergency →
          t.door d = (if k.state = .fault then k else enters k .fault) ∧ t.faultActive .doorPositionLost (d.val + 1))
        ∧ claimed t)
    ∧ (x.role = .doorButton d → u.usable (.doorButton d) = true →
      let now := decide (u.value (.doorButton d) ≠ 0)
      let k1 : Door := { k with lastButton := now }
      let pressed := now = true ∧ k.lastButton = false ∧ s.part ≠ .config
      ∃ t, exec c s = .next t
        ∧ (pressed → k.state = .released → s.motion.standstill = true → s.hold.state = .confirmed →
          t.door d = enters k1 .opening)
        ∧ (pressed → k.state = .openState → t.door d = { k1 with timer := 0 })
        ∧ (pressed → k.state = .warning → k.mode = .passenger → t.door d = enters k1 .openState)
        ∧ ((¬ pressed
            ∨ k.state = .released ∧ (s.motion.standstill = false ∨ s.hold.state ≠ .confirmed)
            ∨ k.state = .warning ∧ k.mode = .cabOpen
            ∨ k.state ≠ .released ∧ k.state ≠ .openState ∧ k.state ≠ .warning) → t.door d = k1)
        ∧ (∀ e : Fin 4, e ≠ d → t.door e = s.door e) ∧ claimed t)
    ∧ (x.role = .doorEmergency d → u.usable (.doorEmergency d) = true →
      let now := decide (u.value (.doorEmergency d) ≠ 0)
      let k1 : Door := { k with lastHandle := now }
      let turned := now ≠ k.lastHandle ∧ s.part ≠ .config
      ∃ t, exec c s = .next t
        ∧ (turned → t.part = s.part → now = true → k.state ≠ .emergency →
          t.door d = { enters k1 .emergency with pendingRelease := false } ∧ t.faultActive .doorEmergency (d.val + 1))
        ∧ (turned → now = false → k.state = .emergency →
          (u.usable (.doorPosition d) = true → k.position = .closedLocked → t.door d = locked k1)
          ∧ (u.usable (.doorPosition d) = true → k.position ≠ .closedLocked → t.door d = enters k1 .openState)
          ∧ ((u.role (.doorPosition d)).status = .never → t.door d = enters k1 .unknown)
          ∧ ((u.role (.doorPosition d)).status = .lost → t.door d = enters k1 .fault))
        ∧ ((¬ turned ∨ now = true ∧ k.state = .emergency ∨ now = false ∧ k.state ≠ .emergency) → t.door d = k1)
        ∧ claimed t)

/-! ### Management requests -/

/-- The fourteen management requests stop with the fault illFormedRequest on operands that no accepted frame carries: a source
station 0 or 63, or a value count outside 1..6 (the model's choice, assumption 4). On any other operands each, while a reset is
pending, is answered REFUSED BUSY and changes nothing else, and with none pending is answered REFUSED BAD-ARGUMENT when its value
count is not that of its layout or a value lies outside it: table 0..8, value count and offset 0 and above (assumption 31), mask
1..511, bank 0..1, count 1..6, 0 where nothing is asked, 1 or 2 for RESET, the not-available value nowhere but in a sum or the
values of LOAD-DATA. -/
def Obligations.RequestsRefused : Prop :=
  ∀ (src : BitVec 6) (args : List Val) (s : State) (n : Nat) (i : Instr), requestOf src args n = some i →
    let within := fun (k : Nat) (lo hi : Int) => lo ≤ (args.getD k 0#16).toInt ∧ (args.getD k 0#16).toInt ≤ hi
    let right :=
      (n = 32 → args.length = 1 ∧ within 0 0 8)
      ∧ (n = 34 → args.length = 2 ∧ within 0 0 32767)
      ∧ (n = 35 → args.length = 1 ∧ within 0 1 511)
      ∧ (n = 36 → args.length = 2 ∧ within 0 0 8 ∧ within 1 0 1)
      ∧ (n = 37 → args.length = 2 ∧ within 0 0 32767 ∧ within 1 1 6)
      ∧ (n = 38 → args.length = 3 ∧ within 0 (-32767) 32767 ∧ within 1 (-32767) 32767 ∧ within 2 (-32767) 32767)
      ∧ (39 ≤ n → n ≤ 44 → args.length = 1 ∧ within 0 0 0)
      ∧ (n = 45 → args.length = 1 ∧ within 0 1 2)
    ((src = 0#6 ∨ src = 63#6 ∨ args = [] ∨ 6 < args.length) → exec i s = .fault .illFormedRequest)
    ∧ (src ≠ 0#6 → src ≠ 63#6 → 1 ≤ args.length → args.length ≤ 6 →
      (s.resetPending ≠ none → exec i s = .next (sendReply src 15 [toVal n, 4#16] false s))
      ∧ (s.resetPending = none → ¬ right → exec i s = .next (sendReply src 15 [toVal n, 1#16] false s)))

/-- LOAD-BEGIN answers. With another table loading it is refused BUSY; otherwise the named table's shadow bank is LOADING with no
value, its pending swap is cancelled, the load state takes it from 0, and the reply says whether a swap was cancelled. LOAD-DATA
answers. With no table loading it is refused NOT-LOADING; otherwise its values go to the end of the shadow bank up to the capacity,
all of them into the sum, a value beyond the capacity sets the overrun flag, and the reply is the pointer. -/
def Obligations.LoadBeginsAndTakesData : Prop :=
  ∀ (src : BitVec 6) (s : State), stationOk src = true → s.resetPending = none →
    (∀ t : Fin 9,
      ((∃ l, s.loading = some l ∧ l.table ≠ t) →
        exec (.loadBegin src [toVal t.val]) s = .next (sendReply src 15 [32#16, 4#16] false s))
      ∧ ((∀ l, s.loading = some l → l.table = t) →
        exec (.loadBegin src [toVal t.val]) s = .next (sendReply src 0
          [toVal t.val, if (s.tab t).pendingSwap = true then 1#16 else 0#16] false
          { s with
            loading := some { table := t, overrun := false, sum := 0, idle := 0 }
            tables := s.tables.set t
              { s.tab t with shadowState := .loading, shadow := [], errorIndex := 0, pendingSwap := false } })))
    ∧ (∀ vals : List Val, 1 ≤ vals.length → vals.length ≤ 6 →
      (s.loading = none → exec (.loadData src vals) s = .next (sendReply src 15 [33#16, 6#16] false s))
      ∧ (∀ l, s.loading = some l → (s.tab l.table).shadow.length ≤ capacity l.table →
        let kept := ((s.tab l.table).shadow ++ vals).take (capacity l.table)
        exec (.loadData src vals) s = .next (sendReply src 1 [toVal kept.length] false
          { s with
            loading := some
              { l with
                overrun := l.overrun || decide (capacity l.table < (s.tab l.table).shadow.length + vals.length)
                sum := vals.foldl (· + ·) l.sum, idle := 0 }
            tables := s.tables.set l.table { s.tab l.table with shadow := kept } })))

/-- LOAD-END answers. With no table loading it is refused NOT-LOADING; otherwise the load state becomes none, the shadow bank takes
the state of the first test that holds, LOAD-DONE is sent, and the reply is the table, the outcome and the error index. A count
reaches 32767 (assumption 31); LOAD-DONE stands before the reply (assumption 16). LOAD_ABANDON, the idle timer one short of 2000,
answers: the shadow bank is EMPTY, no table is loading, and the pointer reached is reported. That this command makes its own count
and no other cycle-start work is the model's choice (assumption 10). -/
def Obligations.LoadEndsOrIsAbandoned : Prop :=
  (∀ (src : BitVec 6) (count : Nat) (sum : Val) (s : State), stationOk src = true → count ≤ 32767 → s.resetPending = none →
    (s.loading = none → exec (.loadEnd src [toVal count, sum]) s = .next (sendReply src 15 [34#16, 6#16] false s))
    ∧ (∀ l, s.loading = some l →
      let x := s.tab l.table
      let o : ShadowState × Nat :=
        if l.overrun = true then (.errorOverrun, 0)
        else if count ≠ x.shadow.length ∨ count ≠ (fixedSize l.table).getD count
            ∨ count % (entrySize l.table).getD 1 ≠ 0 then (.errorCount, 0)
        else if sum ≠ l.sum then (.errorSum, 0)
        else match contentCheck l.table x.shadow with
          | some k => (.errorContent, k)
          | none => (.complete, 0)
      exec (.loadEnd src [toVal count, sum]) s = .next
        (sendReply src 2 [toVal l.table.val, toVal o.1.code, toVal o.2] false
          (sendNotice .loadDone [l.table.val, o.1.code, o.2]
            { s with
              loading := none
              tables := s.tables.set l.table { x with shadowState := o.1, errorIndex := o.2 } }))))
  ∧ (∀ (l : Loading) (s : State), s.loading = some l → 2000 ≤ l.idle + 1 →
    exec .loadAbandon s = .next (sendNotice .loadAbandoned [l.table.val, (s.tab l.table).shadow.length]
      { s with
        loading := none
        tables := s.tables.set l.table { s.tab l.table with shadowState := .empty, shadow := [] } }))

/-- SWAP answers. It is refused PROTECTED outside CONFIG when it names T0, T1 or T2, then NOT-READY when a named shadow bank is not
COMPLETE. Accepted in RUN or STOPPING on a moving bus, it sets the named pending flags and waits; accepted in CONFIG or at
standstill, every table with its flag set then has its banks exchanged. The reply is the mask taken and the mask left pending. The
mask left pending names every waiting table (assumption 33); the reply stands after SWAP-DONE and what the readers send (assumption
16). -/
def Obligations.SwapJudged : Prop :=
  ∀ (src : BitVec 6) (m : Val) (s : State), stationOk src = true → s.resetPending = none → 1 ≤ m.toInt → m.toInt ≤ 511 →
    let flagged := fun x : Fin 9 => m.getLsbD x.val || (s.tab x).pendingSwap
    let mask : Val := BitVec.ofNat 16 (tableIx.foldl (fun n x => if flagged x = true then n + 2 ^ x.val else n) 0)
    let structuralNamed := ∃ x : Fin 9, x.val ≤ 2 ∧ m.getLsbD x.val = true
    let unready := ∃ x : Fin 9, m.getLsbD x.val = true ∧ (s.tab x).shadowState ≠ .complete
    (structuralNamed → s.part ≠ .config →
      exec (.swap src [m]) s = .next (sendReply src 15 [35#16, 7#16] false s))
    ∧ ((¬ structuralNamed ∨ s.part = .config) → unready →
      exec (.swap src [m]) s = .next (sendReply src 15 [35#16, 5#16] false s))
    ∧ (¬ structuralNamed → ¬ unready → s.part ≠ .config → s.motion.standstill = false →
      exec (.swap src [m]) s = .next (sendReply src 3 [0#16, mask] false
        (s.setTables (Vector.ofFn fun x : Fin 9 => { s.tab x with pendingSwap := flagged x }))))
    ∧ ((¬ structuralNamed ∨ s.part = .config) → ¬ unready → (s.part = .config ∨ s.motion.standstill = true) →
      ∃ u, exec (.swap src [m]) s = .next (sendReply src 3 [mask, 0#16] false u)
        ∧ ∀ x : Fin 9, u.tab x = if flagged x = true then (s.tab x).exchange else s.tab x)

/-- What the readers do at a swap of T3 to T7 in RUN and STOPPING, at an accepted SWAP at standstill and at STANDSTILL_SET alike,
unless the part reaches CONFIG by it. T3: the target is recomputed, the command stays. T4: the guard at 0, damper and torque limit
by the new bank. T5: the air level under the new boundaries from the level held; targets, classes, errors and kneel freezes; fills
within the new slot count; a settled corner in HOLD levels by the new deadband; the axle loads, whose report ends a saturation only
at an axle within its maximum under all of them, unless T4 or T6 is swapped too (assumption 56); no completion test of the kneel is
left to pass. T6: D again, p_hold the new p_h or, in a release, at most that, no confirm test and no release test left to pass, the
axles resolved. T7: the filters at their lines' levels, the reversals against the new limit, no gate test left to pass and no close
deferred on a line that is clear. After a SWAP no other door changes, and where neither T4 nor T5 is swapped and neither hold state
nor kneel changes the saturation timers stay (assumption 50). The reversals are compared with the limit of the bank put aside:
DEDUCED (assumption 37). Several tables swapped in one event are worked in the order of their numbers: DEDUCED (assumption 67); the
order within one door is the model's (assumption 66). -/
def Obligations.SwapReachesReaders : Prop :=
  let read := fun (p : Fin 9 → Bool) (s t : State) =>
    (p 3 = true → t.TargetFollows ∧ t.rear.command = s.rear.command)
    ∧ (p 4 = true → t.joint.guard = 0 ∧ t.joint.guardTimer = 0 ∧ t.JointFollows ∧ t.drive.torque = t.joint.torque)
    ∧ (p 5 = true →
      t.air.level = (if t.usable .reservoir = true then
          airLevelAfter (t.param 5 0) (t.param 5 1) s.air.level (clamp 0 1500 (t.value .reservoir)) else .unknown)
      ∧ (slotsHeld t : Int) ≤ t.param 5 19
      ∧ (∀ a : Fin 3, t.LoadFollows a) ∧ (t.loads ≠ s.loads → t.AxlesResolved)
      ∧ (∀ c : Fin 6,
        let k := s.corner c
        let x := t.corner c
        let kneels := (t.raw 5 9).getLsbD c.val = true
        x.height = k.height
        ∧ x.target = t.param 5 (3 + c.val)
          - (if kneels ∧ (t.kneel.state = .lowering ∨ t.kneel.state = .knelt) then t.param 5 10 else 0)
        ∧ x.cls = (if kneels ∧ t.kneel.state = .raising then .one else .two)
        ∧ x.error = clamp (-32767) 32767 (x.target - x.height)
        ∧ x.frozenKneel = kneelFreeze t c
        ∧ (k.valve = .hold → k.settle = 0 → k.frozen = false → x.frozen = false → t.kneel.state = s.kneel.state →
          (t.param 5 11 < x.error → x.valve = .waitFill ∨ x.valve = .filling)
          ∧ (x.error < -t.param 5 11 → x.valve = .exhausting)
          ∧ (-t.param 5 11 ≤ x.error → x.error ≤ t.param 5 11 → x.valve = .hold)))
      ∧ ¬ (t.kneel.state = .lowering ∧ loweringDone t = true) ∧ ¬ (t.kneel.state = .raising ∧ raisingDone t = true))
    ∧ (p 6 = true →
      t.DecelFollows ∧ t.AxlesResolved
      ∧ ((t.hold.state = .applying ∨ t.hold.state = .confirmed) →
        t.hold.pressure = t.param 6 14 ∧ (t.holdSet ≠ [] ∨ driveAsked t = false))
      ∧ (t.hold.state = .applying → confirmMet t = false)
      ∧ (s.motion.standstill = true → t.hold.state = .releasing → s.hold.state = .releasing →
        t.hold.pressure = min s.hold.pressure (t.param 6 14))
      ∧ (t.hold.state = .releasing → t.hold.pressure ≤ t.param 6 14))
    ∧ (p 7 = true → ∀ d : Fin 4,
      let k := t.door d
      let limit := t.param 7 (11 * d.val + 7)
      t.edges[d] = { high := s.edges[d].high, running := false, timer := 0
                     filtered := if t.param 7 (11 * d.val + 8) = 0 then s.edges[d].high else !s.edges[d].high }
      ∧ k.reversals = (s.door d).reversals
      ∧ (limit ≤ (k.reversals : Int) → (k.reversals : Int) < s.param 7 (11 * d.val + 7) → t.faultActive .doorObstruction (d.val + 1))
      ∧ ((k.reversals : Int) < limit → ¬ t.faultActive .doorObstruction (d.val + 1))
      ∧ ¬ (k.state = .releaseWait ∧ t.motion.standstill = true ∧ t.hold.state = .confirmed ∧ gateOf t d = true)
      ∧ (k.state = .openState → k.closeDeferred = true →
        t.param 7 (11 * d.val + 9) = 1 ∧ t.edges[d].filtered = true))
  let sound := fun s : State => s.part ≠ .config ∧ s.RunSound ∧ s.TablesSound ∧ s.FaultsSound ∧ s.faults.list.length ≤ 24
    ∧ s.drive.torque = s.joint.torque ∧ (s.tab 1).pendingSwap = false
  (∀ (src : BitVec 6) (m : Val) (s : State), sound s → stationOk src = true → s.resetPending = none → 1 ≤ m.toInt →
    m.toInt ≤ 511 → (∀ x : Fin 9, m.getLsbD x.val = true → 2 < x.val ∧ (s.tab x).shadowState = .complete) →
    s.motion.standstill = true →
    let flagged := fun x : Fin 9 => m.getLsbD x.val || (s.tab x).pendingSwap
    ∃ t, exec (.swap src [m]) s = .next t
      ∧ (t.part ≠ .config → read flagged s t
        ∧ (∀ d : Fin 4, (s.door d).state ≠ .releaseWait → ¬ ((s.door d).state = .openState ∧ (s.door d).closeDeferred = true) →
          t.door d = s.door d)
        ∧ (flagged 4 = false → flagged 6 = false → ∀ a : Fin 3,
          s.param 6 (11 + a.val) < t.axle.driver[a] → t.axle.satTimer[a] = s.axle.satTimer[a])
        ∧ (flagged 4 = false → flagged 5 = false → t.hold.state = s.hold.state → t.kneel = s.kneel →
          t.axle.satTimer = s.axle.satTimer)
        ∧ t = { s with
            tables := t.tables, rear := t.rear, joint := t.joint, drive := t.drive, air := t.air, corners := t.corners
            loads := t.loads, kneel := t.kneel, holdSet := t.holdSet, hold := t.hold, axle := t.axle, doors := t.doors
            edges := t.edges, seq := t.seq, vehicle := t.vehicle, faults := t.faults }))
  ∧ (∀ s : State, sound s → s.motion.standstill = false → s.motion.status = .valid → s.motion.speed ≤ s.param 8 17 →
    s.param 8 19 ≤ ((s.motion.timer + 1 : Nat) : Int) →
    ∃ t, exec .standstillSet s = .next t ∧ (t.part ≠ .config → read (fun x => (s.tab x).pendingSwap) s t))

/-- SELECT answers: the cursor is set and nothing else changes. READ answers: with no cursor, or past the values the bank holds, it
is refused BAD-ARGUMENT; otherwise the reply, whose tag names table and bank, carries the values from the offset. Counts and
offsets reach 32767 (assumption 31). QUERY answers with the values of the named part of the named record, at most six of them, or
is refused BAD-ARGUMENT where there is no such part; it changes nothing but the reply's sequence counter and the vehicle port's
transmit queue. Each part of each of the seventeen kinds carries the fields of the table of 11.5, in its order. With no table
loading or no cursor the table is 9 and the rest is absent, and the summary of the fault list reads no index: DEDUCED (assumption
32). -/
def Obligations.SelectReadAndQuery : Prop :=
  (∀ (src : BitVec 6) (s : State), stationOk src = true → s.resetPending = none →
    (∀ (t : Fin 9) (b : Bank),
      exec (.select src [toVal t.val, toVal b.code]) s
        = .next (sendReply src 4 [toVal t.val, toVal b.code] false (s.setCursor (some (t, b)))))
    ∧ (∀ offset count : Nat, offset ≤ 32767 → 1 ≤ count → count ≤ 6 →
      (s.cursor = none →
        exec (.read src [toVal offset, toVal count]) s = .next (sendReply src 15 [37#16, 1#16] false s))
      ∧ ∀ (t : Fin 9) (b : Bank), s.cursor = some (t, b) →
        let vals := match b with | .active => (s.tab t).active | .shadow => (s.tab t).shadow
        let n := 32 + 2 * t.val + b.code
        (vals.length < offset + count →
          exec (.read src [toVal offset, toVal count]) s = .next (sendReply src 15 [37#16, 1#16] false s))
        ∧ (offset + count ≤ vals.length → ∀ h : n < 50,
          exec (.read src [toVal offset, toVal count]) s
            = .next (sendReply src ⟨n, h⟩ ((vals.drop offset).take count) false s))))
  ∧ (∀ (src : BitVec 6) (kind index part : Val) (s : State), stationOk src = true → s.resetPending = none →
    kind.toInt ≠ -32768 → index.toInt ≠ -32768 → part.toInt ≠ -32768 →
    (∀ vals, queryValues s kind.toInt index.toInt part.toInt = some vals →
      1 ≤ vals.length ∧ vals.length ≤ 6
      ∧ exec (.query src [kind, index, part]) s = .next (sendReply src 6 (vals.map toVal) false s))
    ∧ (queryValues s kind.toInt index.toInt part.toInt = none →
      exec (.query src [kind, index, part]) s = .next (sendReply src 15 [38#16, 1#16] false s))
    ∧ (17 ≤ kind.toInt → queryValues s kind.toInt index.toInt part.toInt = none))
  ∧ (∀ (src : BitVec 6) (s : State), stationOk src = true → s.resetPending = none →
    let answers := fun (kind index part : Nat) (vals : List Int) =>
      exec (.query src [toVal kind, toVal index, toVal part]) s = .next (sendReply src 6 (vals.map toVal) false s)
    let claim := fun k : Nat => match s.holdSet[k]? with
      | some c => [c.holder.code, (c.stamp.toNat : Int)]
      | none => [-32768, -32768]
    let wide := fun x : Counter => [(x.toNat / 65536 : Int), (x.toNat % 65536 : Int)]
    let levels := s.faults.levels
    (s.loading = none → answers 0 0 0 [s.part.code, s.station.toNat, s.cycle.toNat, s.trim, 9, -32768])
    ∧ (∀ l : Loading, s.loading = some l →
      answers 0 0 0 [s.part.code, s.station.toNat, s.cycle.toNat, s.trim, l.table.val, (s.tab l.table).shadow.length])
    ∧ (s.cursor = none → answers 0 0 1 [9, -32768])
    ∧ (∀ (t : Fin 9) (b : Bank), s.cursor = some (t, b) → answers 0 0 1 [t.val, b.code])
    ∧ (∀ t : Fin 9, let x := s.tab t
      answers 1 t.val 0
        [flagCode x.valid, x.active.length, x.shadowState.code, x.shadow.length, x.errorIndex, flagCode x.pendingSwap])
    ∧ (∀ i : Fin 96, let r := s.signals[i]
      answers 2 i.val 0 [r.value, r.lastRaw, r.age, r.status.code, flagCode r.clamp, r.lastSeq.toNat]
      ∧ answers 2 i.val 1 [r.duplicates, r.skips, r.notAvail, r.shorts])
    ∧ answers 3 0 0 [if s.motion.status = .lost then -32768 else s.motion.speed, s.motion.status.code, flagCode s.motion.standstill
      , s.motion.timer]
    ∧ answers 4 0 0 [s.rear.target, s.rear.command, s.rear.state.code, s.rear.trackTimer, flagCode s.rear.latch]
    ∧ answers 5 0 0 [s.joint.history.length, ((s.joint.history.map JointSample.value).head?).getD (-32768), s.joint.rate
      , s.joint.damper, s.joint.mode.code, s.joint.guard]
    ∧ answers 5 0 1 [s.joint.guardTimer, s.joint.torque]
    ∧ answers 6 0 0 [s.air.pressure, s.air.level.code]
    ∧ (∀ c : Fin 6, let k := s.corner c
      answers 7 c.val 0 [k.height, k.target, k.error, k.valve.code, k.cls.code
        , flagCode k.frozenHeight + 2 * flagCode k.frozenTimeout + 4 * flagCode k.frozenKneel]
      ∧ answers 7 c.val 1 [k.settle, k.pulse, k.run, k.runStart, k.persist, k.dir.code]
      ∧ answers 7 c.val 2 [k.loadPressure.getD (-32768)])
    ∧ (∀ a : Fin 3, answers 8 a.val 0 [s.loads[a].load, s.loads[a].status.code])
    ∧ answers 9 0 0 [s.kneel.state.code, s.kneel.timer, flagCode s.kneel.timeoutFlag, s.kneel.lastRefusal.code]
    ∧ answers 10 0 0 [s.hold.state.code, s.hold.pressure, s.hold.confirmTimer, flagCode s.hold.timeoutFlag]
    ∧ answers 11 0 0 [flagCode s.drive.inhibit, s.drive.torque]
    ∧ answers 12 0 0 ((s.holdSet.length : Int) :: (claim 0 ++ claim 1))
    ∧ answers 12 0 1 (claim 2 ++ claim 3 ++ claim 4) ∧ answers 12 0 2 (claim 5 ++ claim 6 ++ claim 7)
    ∧ (∀ d : Fin 4, let k := s.door d
      answers 13 (d.val + 1) 0 [k.state.code, k.position.code, flagCode k.pendingRelease, k.mode.code, k.timer, k.reversals]
      ∧ answers 13 (d.val + 1) 1 [flagCode k.closeDeferred, flagCode k.lastButton, flagCode k.lastHandle, flagCode k.tone])
    ∧ (∀ (k : Fin 32) (e : FaultEntry), s.faults.list[k.val]? = some e →
      answers 14 k.val 0
        [e.code.code, e.subject, e.code.severity.code, flagCode (!e.active), flagCode e.code.latched, flagCode (!e.present)]
      ∧ answers 14 k.val 1 [e.count, e.first.toNat, e.last.toNat])
    ∧ (∀ k : Fin 32768, answers 14 k.val 2
      [s.faults.list.length, s.faults.overflow, levels.steering.code, levels.joint.code, levels.height.code, levels.brake.code])
    ∧ (∀ p : Port, let x := s.port p
      answers 15 (portIndex p) 0 (wide x.ctr.accepted ++ wide x.ctr.checkErrors ++ wide x.ctr.formatErrors)
      ∧ answers 15 (portIndex p) 1 (wide x.ctr.overruns ++ wide x.ctr.transmitted ++ wide x.ctr.forwardDrops)
      ∧ answers 15 (portIndex p) 2 (wide x.ctr.noticeDrops ++ wide x.ctr.replyDrops ++ wide x.ctr.commandDrops)
      ∧ answers 15 (portIndex p) 3 (wide x.cls.consumed ++ wide x.cls.requested ++ wide x.cls.forwarded)
      ∧ answers 15 (portIndex p) 4 (wide x.cls.management ++ wide x.cls.unrouted ++ wide x.cls.gated)
      ∧ answers 15 (portIndex p) 5 (wide x.cls.misdirected ++ wide x.cls.dropped)
      ∧ answers 15 (portIndex p) 6 [x.score, flagCode x.linkFault])
    ∧ answers 16 0 0 [s.axle.decel, s.axle.pressure[0], s.axle.pressure[1], s.axle.pressure[2], flagCode s.axle.holdFlag
      , flagCode s.axle.backup]
    ∧ answers 16 0 1 [s.axle.driver[0], s.axle.driver[1], s.axle.driver[2], s.axle.satTimer[0], s.axle.satTimer[1]
      , s.axle.satTimer[2]])

/-- START answers. It is refused STATE outside CONFIG, then NOT-READY unless all nine tables are VALID, then MOVING unless
standstill is set. Accepted, the part is in RUN, the hold applied, the steering out of PARKED, the joint without history and with
the guard at 0, the kneel LEVEL, the axle loads FALLBACK, with motion, signals, tables and cycle as they were. A corner takes a
usable height, else is frozen for HEIGHT-LOST, at its ride target, the settle time to run. A door that CONFIG leaves UNKNOWN, LOCKED
or OPEN has timer and flags cleared, is in FAULT where its known position is lost, and EMERGENCY where its handle is pulled, with
its claim. D, backup flag and axle pressures are taken anew; so are rear target, state and latch; the command is the actual angle
with all doors LOCKED, else kept. Each unusable input has its fault. The loads are the fallback loads of the T5 then active
(assumption 41). A handle value other than 0 counts as pulled: DEDUCED (assumption 35). -/
def Obligations.StartTaken : Prop :=
  ∀ (src : BitVec 6) (s : State), stationOk src = true → s.resetPending = none →
    (s.part ≠ .config → exec (.start src [0#16]) s = .next (sendReply src 15 [39#16, 2#16] false s))
    ∧ (s.part = .config → (∃ t : Fin 9, (s.tab t).valid = false) →
      exec (.start src [0#16]) s = .next (sendReply src 15 [39#16, 5#16] false s))
    ∧ (s.part = .config → (∀ t : Fin 9, (s.tab t).valid = true) → s.motion.standstill = false →
      exec (.start src [0#16]) s = .next (sendReply src 15 [39#16, 3#16] false s))
    ∧ (s.part = .config → (∀ t : Fin 9, (s.tab t).valid = true) → s.motion.standstill = true →
      ∃ t, exec (.start src [0#16]) s = .next t
        ∧ t.part = .run ∧ t.motion = s.motion ∧ t.signals = s.signals ∧ t.tables = s.tables ∧ t.cycle = s.cycle
        ∧ (t.hold.state = .applying ∨ t.hold.state = .confirmed ∨ t.hold.state = .releasing)
        ∧ t.hold.pressure = s.param 6 14 ∧ t.hold.confirmTimer = 0 ∧ t.hold.timeoutFlag = false
        ∧ (t.hold.state = .applying ↔ confirmMet s = false)
        ∧ t.rear.state ≠ .parked ∧ t.joint.history = [] ∧ t.joint.rate = 0 ∧ t.joint.guard = 0
        ∧ t.kneel = { s.kneel with state := .level, timer := 0, timeoutFlag := false }
        ∧ t.air.level = (if s.usable .reservoir = true then
            airLevelAfter (s.param 5 0) (s.param 5 1) .unknown (clamp 0 1500 (s.value .reservoir)) else .unknown)
        ∧ (∀ a : Fin 3, t.loads[a] = { load := s.param 5 (29 + a.val), status := .fallback })
        ∧ (s.kneel.state = .level → ∀ c : Fin 6,
          let usable := s.usable (.height c)
          let height := if usable = true then s.value (.height c) else 0
          let target := s.param 5 (3 + c.val)
          t.corner c =
            { height := height, target := target, error := clamp (-32767) 32767 (target - height), valve := .hold, cls := .two
              frozenHeight := !usable, frozenTimeout := false, frozenKneel := false, settle := (s.param 5 16).toNat, pulse := 0
              run := 0, runStart := 0, persist := 0, dir := .none, loadPressure := none })
        ∧ (∀ d : Fin 4, (s.door d).state = .unknown ∨ (s.door d).state = .locked ∨ (s.door d).state = .openState →
          let k := s.door d
          let pulled := s.usable (.doorEmergency d) = true ∧ s.value (.doorEmergency d) ≠ 0
          let lost := s.usable (.doorPosition d) = false ∧ k.state ≠ .unknown
          (pulled → t.door d =
            { k with state := .emergency, timer := 0, pendingRelease := false, closeDeferred := false, tone := true })
          ∧ (¬ pulled → lost → t.door d =
            { k with state := .fault, timer := 0, pendingRelease := false, closeDeferred := false, tone := false })
          ∧ (¬ pulled → ¬ lost → t.door d = { k with timer := 0, pendingRelease := false, closeDeferred := false })
          ∧ (s.DoorsHeld → (t.door d).state ≠ .locked → t.claims (.door d) = true))
        ∧ t.DecelFollows ∧ t.AxlesResolved
        ∧ (s.FaultsSound →
          t.TargetFollows ∧ t.SteeringResolved ∧ t.rear.trackTimer = 0
          ∧ t.rear.command = (if ∀ d : Fin 4, (t.door d).state = .locked then
              if s.usable .rearActual = true then clamp (-2000) 2000 (s.value .rearActual) else 0
            else s.rear.command)
          ∧ (s.rear.latch = false → (t.rear.latch = true ↔ s.motion.status = .valid ∧ s.param 3 199 ≤ s.motion.speed))
          ∧ (t.axle.backup = true ↔ s.usable .driverDecel = false ∨ t.faults.levels.brake = .safe)
          ∧ t.JointFollows ∧ (s.drive.torque = s.joint.torque → t.drive.torque = t.joint.torque))
        ∧ (s.faults.list.length ≤ 5 →
          (s.usable .frontAngle = false → t.faultActive .frontAngleLost 0)
          ∧ (s.usable .rearActual = false → t.faultActive .rearActualLost 0)
          ∧ (s.usable .jointAngle = false → t.faultActive .jointAngleLost 0)
          ∧ (s.usable .driverDecel = false → t.faultActive .demandLost 0)
          ∧ (∀ c : Fin 6, (s.usable (.height c) = false → t.faultActive .heightLost c.val)
            ∧ (s.usable (.bellows c) = false → t.faultActive .bellowsLost c.val))
          ∧ (t.air.level = .unknown → t.faultActive .reservoirLost 0) ∧ (t.air.level = .reserve → t.faultActive .reservoirLow 0)
          ∧ ∀ d : Fin 4, (s.usable (.doorPosition d) = false → t.faultActive .doorPositionLost (d.val + 1))
            ∧ ((t.door d).state = .emergency → (s.door d).state ≠ .emergency → t.faultActive .doorEmergency (d.val + 1))))

/-- STOP answers. It is refused STATE outside RUN, then MOVING unless standstill is set. Accepted, MAINT joins the set; a RELEASED
or RELEASING hold is applied by that claim, any other, or one whose set holds MAINT already, stays. Unless the hold then stands
CONFIRMED the part is in STOPPING. With the hold CONFIRMED it is in CONFIG, MAINT and KNEEL gone and STARTUP added, and hold, axles,
joint, air, corners, kneel and steering at their CONFIG values, the steering command kept. -/
def Obligations.StopTaken : Prop :=
  ∀ (src : BitVec 6) (s : State), stationOk src = true → s.resetPending = none →
    let applies := (s.hold.state = .released ∨ s.hold.state = .releasing) ∧ s.claims .maint = false
    let confirmed := s.hold.state = .confirmed ∨ applies ∧ confirmMet s = true
    (s.part ≠ .run → exec (.stop src [0#16]) s = .next (sendReply src 15 [40#16, 2#16] false s))
    ∧ (s.part = .run → s.motion.standstill = false →
      exec (.stop src [0#16]) s = .next (sendReply src 15 [40#16, 3#16] false s))
    ∧ (s.part = .run → s.motion.standstill = true → ¬ confirmed →
      ∃ t, exec (.stop src [0#16]) s = .next t
        ∧ t.part = .stopping ∧ t.claims .maint = true ∧ t.drive.torque = s.drive.torque
        ∧ (¬ applies → t.hold = s.hold)
        ∧ (applies → t.hold = { state := .applying, pressure := s.param 6 14, confirmTimer := 0, timeoutFlag := false })
        ∧ t = { s with
            part := t.part, holdSet := t.holdSet, hold := t.hold, drive := t.drive, axle := t.axle, seq := t.seq
            vehicle := t.vehicle, faults := t.faults })
    ∧ (s.part = .run → s.motion.standstill = true → confirmed →
      ∃ t, exec (.stop src [0#16]) s = .next t
        ∧ t.part = .config ∧ t.claims .maint = false ∧ t.claims .startup = true
        ∧ (s.kneel.state ≠ .level → t.claims .kneel = false) ∧ t.hold = Hold.reset ∧ t.axle = AxlePressure.reset
        ∧ t.joint = Joint.reset ∧ t.air = Air.reset ∧ t.corners = Vector.replicate 6 Corner.reset
        ∧ t.kneel.state = .level ∧ t.kneel.timer = 0 ∧ t.kneel.timeoutFlag = false
        ∧ t.kneel.lastRefusal = s.kneel.lastRefusal
        ∧ t.rear = { s.rear with target := 0, state := .parked, trackTimer := 0, latch := false }
        ∧ ∀ d : Fin 4, (t.door d).timer = 0 ∧ (t.door d).reversals = 0 ∧ (t.door d).pendingRelease = false
            ∧ (t.door d).tone = false)

/-- HOLD-ADD and DRIVER-HOLD-ON answer with the claim in the set, HOLD-REMOVE and DRIVER-HOLD-OFF with it gone and the other claims
in their order; a claim already there, or absent, changes nothing. A claim that joins takes a RELEASED hold into PENDING on a
moving bus, applies it at standstill, applies a RELEASING one, and leaves any other; the applied hold is CONFIRMED at once where
the axles already confirm it, and then a MAINT claim that joins in STOPPING ends in CONFIG. A claim that leaves the set empty takes
a PENDING hold to RELEASED, releases an APPLYING or CONFIRMED one where the drive is asked, and leaves any other; one that leaves
the set not empty changes no hold. While the part is in CONFIG the hold record keeps its values. The drive inhibit is on while a
claim stands. Confirm timer and flag are kept outside an entry into APPLYING: DEDUCED (assumption 48). -/
def Obligations.ClaimsAddedAndRemoved : Prop :=
  ∀ (src : BitVec 6) (s : State), stationOk src = true → s.resetPending = none →
    let moves := s.part ≠ .config ∧ (s.hold.state = .released ∨ s.hold.state = .releasing)
    let applies := s.part ≠ .config
      ∧ (s.hold.state = .released ∧ s.motion.standstill = true ∨ s.hold.state = .releasing)
    let joined := fun t : State =>
      (¬ moves → t.hold = s.hold)
      ∧ (moves → ¬ applies → t.hold = { s.hold with state := .pending, pressure := 0 })
      ∧ (applies → confirmMet s = false →
        t.hold = { state := .applying, pressure := s.param 6 14, confirmTimer := 0, timeoutFlag := false })
      ∧ (applies → confirmMet s = true → s.part = .run → s.kneel.state ≠ .waitHold →
        t.hold = { state := .confirmed, pressure := s.param 6 14, confirmTimer := 0, timeoutFlag := false })
    let left := fun (h : Holder) (t : State) =>
      let rest := s.holdSet.filter (fun c => decide (c.holder ≠ h))
      let emptied := rest = [] ∧ s.part ≠ .config
      t.holdSet = rest ∧ t.drive = { s.drive with inhibit := !rest.isEmpty }
      ∧ (¬ emptied → t.hold = s.hold)
      ∧ (emptied → s.hold.state = .pending → t.hold = { s.hold with state := .released, pressure := 0 })
      ∧ (emptied → (s.hold.state = .applying ∨ s.hold.state = .confirmed) →
        t.hold = if driveAsked s = true then { s.hold with state := .releasing } else s.hold)
      ∧ (emptied → (s.hold.state = .released ∨ s.hold.state = .releasing) → t.hold = s.hold)
      ∧ t = { s with
          holdSet := t.holdSet, drive := t.drive, hold := t.hold, axle := t.axle, seq := t.seq, vehicle := t.vehicle
          faults := t.faults }
    (s.claims .driver = true → exec .driverHoldOn s = .next s)
    ∧ (s.claims .driver = false →
      ∃ t, exec .driverHoldOn s = .next t ∧ joined t
        ∧ (s.part ≠ .stopping → t.claims .driver = true ∧ t.drive.inhibit = true)
        ∧ (s.part = .config → t = { s with
            holdSet := s.holdSet ++ [{ holder := .driver, stamp := s.cycle }], drive := { s.drive with inhibit := true } })
        ∧ (s.part ≠ .config → ¬ (applies ∧ confirmMet s = true) →
          t = { s with
            holdSet := s.holdSet ++ [{ holder := .driver, stamp := s.cycle }], drive := { s.drive with inhibit := true }
            hold := t.hold, axle := t.axle, seq := t.seq, vehicle := t.vehicle, faults := t.faults } ∧ s.OnlyNotices t))
    ∧ (s.claims .driver = false → exec .driverHoldOff s = .next s)
    ∧ (s.claims .driver = true → ∃ t, exec .driverHoldOff s = .next t ∧ left .driver t ∧ s.OnlyNotices t)
    ∧ (s.claims .maint = true → exec (.holdAdd src [0#16]) s = .next (sendReply src 9 [0#16] false s))
    ∧ (s.claims .maint = false →
      ∃ t, exec (.holdAdd src [0#16]) s = .next t ∧ joined t
        ∧ ((s.part ≠ .stopping ∨ ¬ (applies ∧ confirmMet s = true)) → t.claims .maint = true ∧ t.drive.inhibit = true
          ∧ t.part = s.part)
        ∧ (s.part = .stopping → applies → confirmMet s = true →
          t.part = .config ∧ t.claims .maint = false ∧ t.claims .startup = true ∧ t.hold = Hold.reset))
    ∧ (s.claims .maint = false → exec (.holdRemove src [0#16]) s = .next (sendReply src 10 [0#16] false s))
    ∧ (s.claims .maint = true → ∃ t, exec (.holdRemove src [0#16]) s = .next t ∧ left .maint t)

/-- CLEAR-FAULTS answers: the entries that stay are, in their order, those that are ACTIVE and, at standstill, not latched with
their cause ENDED; the overflow count is 0; at standstill no corner without a CORNER-TIMEOUT entry is frozen by a timeout.
CLEAR-COUNTERS answers: every port and classifier counter is 0, the frames in the receive queues are marked, the four counts of
every signal record are 0, and nothing else changes but for the reply. -/
def Obligations.FaultsAndCountersCleared : Prop :=
  (∀ (src : BitVec 6) (s : State), stationOk src = true → s.resetPending = none → s.FaultsSound →
    ∃ t, exec (.clearFaults src [0#16]) s = .next t
      ∧ t.faults.list.map FaultEntry.pair
          = (s.faults.list.filter (fun e =>
              e.active && !(s.motion.standstill && e.code.latched && !e.present))).map FaultEntry.pair
      ∧ t.faults.overflow = 0
      ∧ (s.motion.standstill = true → ∀ c : Fin 6,
          (∀ e ∈ t.faults.list, e.pair ≠ (.cornerTimeout, c.val)) → (t.corner c).frozenTimeout = false)
      ∧ t = { s with
          faults := t.faults, rear := t.rear, axle := t.axle, corners := t.corners, seq := t.seq, vehicle := t.vehicle })
  ∧ (∀ (src : BitVec 6) (s : State), stationOk src = true → s.resetPending = none →
    exec (.clearCounters src [0#16]) s = .next (sendReply src 12 [0#16] false
      { s with
        vehicle := { s.vehicle with
          ctr := PortCounters.zero, cls := ClassCounters.zero
          rx := s.vehicle.rx.map (fun e => { e with marked := true }) }
        chassis := { s.chassis with
          ctr := PortCounters.zero, cls := ClassCounters.zero
          rx := s.chassis.rx.map (fun e => { e with marked := true }) }
        signals := s.signals.map (fun r => { r with duplicates := 0, skips := 0, notAvail := 0, shorts := 0 }) }))

/-- RESET answers. In RUN and STOPPING it is refused MOVING unless standstill is set. Accepted with a place for its reply, the reply
is queued and the reset pending; without a place the reset takes effect at once. -/
def Obligations.ResetRequested : Prop :=
  ∀ (src : BitVec 6) (k : ResetKind) (s : State), stationOk src = true → s.resetPending = none →
    let arg : Val := match k with | .soft => 1#16 | .hard => 2#16
    (s.part ≠ .config → s.motion.standstill = false →
      exec (.reset src [arg]) s = .next (sendReply src 15 [45#16, 3#16] false s))
    ∧ ((s.part = .config ∨ s.motion.standstill = true) → s.vehicle.tx.length < 32 →
      exec (.reset src [arg]) s = .next (sendReply src 13 [arg] true (s.setResetPending (some k))))
    ∧ ((s.part = .config ∨ s.motion.standstill = true) → 32 ≤ s.vehicle.tx.length →
      ∃ t, exec (.reset src [arg]) s = .next t
        ∧ t.part = .config ∧ t.resetPending = none ∧ t.chassis = PortState.reset ∧ t.holdSet = resetClaims
        ∧ t.cycle = 0 ∧ t.vehicle.rx = []
        ∧ t.tables = (match k with | .soft => s.tables.map Table.soft | .hard => Vector.replicate 9 Table.empty))

/-! ### Cab requests -/

/-- DOOR-RELEASE answers. A mask outside 1..15 is refused whole as MALFORMED with door 0. Outside RUN every door of the mask is
refused NOT-RUN, and on a moving bus above the pre-release speed, or with its speed LOST, each LOCKED door of the mask without a
pending release is refused SPEED or SPEED-UNKNOWN, one RELEASE-REFUSED each in the order of the doors, and nothing else changes.
Below the pre-release speed each LOCKED door of the mask pends with its mode from T7; at standstill each leaves LOCKED with its
claim held, and goes on from RELEASE-WAIT, opening or released by its mode, exactly where the hold then stands CONFIRMED and the
door's gate is met. With a kneel in WAIT-HOLD, which a confirmed hold lowers within the event, that is said of the gates that do
not name KNELT. RELEASE-REFUSED carries speed 0 while LOST: R163 against R190, DEDUCED (assumption 53). -/
def Obligations.DoorsReleased : Prop :=
  ∀ (mask : Val) (s : State),
    let speed : Int := if s.motion.status = .valid then s.motion.speed else 0
    let namesKnelt := fun d : Fin 4 =>
      (s.raw 7 (11 * d.val + 1)).getLsbD 5 = true ∨ (s.raw 7 (11 * d.val + 2)).getLsbD 5 = true
    let wellMasked := 1 ≤ mask.toInt ∧ mask.toInt ≤ 15
    let asks := fun d : Fin 4 => decide ((s.door d).state = .locked) && !(s.door d).pendingRelease
    let refused := fun (who : Fin 4 → Bool) (reason : Int) =>
      ([0, 1, 2, 3] : List (Fin 4)).foldl
        (fun x d => if (mask.getLsbD d.val && who d) = true then sendNotice .releaseRefused [0, d.val + 1, reason, speed] x else x) s
    (¬ wellMasked → exec (.doorRelease mask) s = .next (sendNotice .releaseRefused [0, 0, 0, speed] s))
    ∧ (wellMasked → s.part ≠ .run → exec (.doorRelease mask) s = .next (refused (fun _ => true) 1))
    ∧ (wellMasked → s.part = .run → s.motion.standstill = false → s.motion.status = .valid → s.param 8 20 < s.motion.speed →
      exec (.doorRelease mask) s = .next (refused asks 2))
    ∧ (wellMasked → s.part = .run → s.motion.standstill = false → s.motion.status = .lost →
      exec (.doorRelease mask) s = .next (refused asks 3))
    ∧ (wellMasked → s.part = .run → s.motion.standstill = false → s.motion.status = .valid → s.motion.speed ≤ s.param 8 20 →
      exec (.doorRelease mask) s = .next (s.setDoors (Vector.ofFn fun d : Fin 4 =>
        if mask.getLsbD d.val = true ∧ (s.door d).state = .locked ∧ (s.door d).pendingRelease = false then
          { s.door d with
            pendingRelease := true, mode := if s.param 7 (11 * d.val) = 0 then .cabOpen else .passenger }
        else s.door d)))
    ∧ (wellMasked → s.part = .run → s.motion.standstill = true →
      ∃ t, exec (.doorRelease mask) s = .next t
        ∧ (∀ d : Fin 4, mask.getLsbD d.val = true → (s.door d).state = .locked → (s.door d).pendingRelease = false →
          ((t.door d).state = .releaseWait ∨ (t.door d).state = .opening ∨ (t.door d).state = .released)
          ∧ (s.HoldSound → (s.kneel.state ≠ .waitHold ∨ ¬ namesKnelt d) → (t.door d).state = t.afterWait d)
          ∧ (t.door d).mode = (if s.param 7 (11 * d.val) = 0 then .cabOpen else .passenger)
          ∧ (t.door d).timer = 0 ∧ (t.door d).tone = false ∧ t.claims (.door d) = true)
        ∧ (∀ d : Fin 4, (s.door d).state ≠ .locked → (s.door d).state ≠ .releaseWait → t.door d = s.door d)
        ∧ (∀ d : Fin 4, (s.door d).state = .locked → (mask.getLsbD d.val = false ∨ (s.door d).pendingRelease = true) →
          t.door d = s.door d)
        ∧ t = { s with
            rear := t.rear, corners := t.corners, kneel := t.kneel, holdSet := t.holdSet, hold := t.hold, drive := t.drive
            axle := t.axle, doors := t.doors, seq := t.seq, vehicle := t.vehicle, faults := t.faults } ∧ s.OnlyNotices t)

/-- DOOR-CLOSE answers. A mask outside 1..15 is refused whole as malformed; in CONFIG nothing changes; in RUN and STOPPING each door
of the mask takes the close of its state, and every other door stays as it is. A door that becomes LOCKED has lost its claim.
RELEASE-REFUSED carries speed 0 while LOST: R163 against R190, DEDUCED (assumption 53). The close of a door other than LOCKED keeps
its pending release: DEDUCED (assumption 51). -/
def Obligations.DoorsClosed : Prop :=
  ∀ (mask : Val) (s : State),
    let speed : Int := if s.motion.status = .valid then s.motion.speed else 0
    let wellMasked := 1 ≤ mask.toInt ∧ mask.toInt ≤ 15
    (¬ wellMasked → exec (.doorClose mask) s = .next (sendNotice .releaseRefused [1, 0, 0, speed] s))
    ∧ (wellMasked → s.part = .config → exec (.doorClose mask) s = .next s)
    ∧ (wellMasked → s.part ≠ .config →
      ∃ t, exec (.doorClose mask) s = .next t
        ∧ (∀ d : Fin 4,
          let k := s.door d
          let gone : Door := { k with timer := 0, closeDeferred := false, tone := false }
          let count := if s.param 7 (11 * d.val + 7) ≤ (k.reversals : Int) then 0 else k.reversals
          (mask.getLsbD d.val = false → t.door d = k)
          ∧ (mask.getLsbD d.val = true →
            (k.state = .locked → t.door d = { k with pendingRelease := false })
            ∧ ((k.state = .releaseWait ∨ k.state = .released) →
              t.door d = { gone with state := .locked, reversals := 0 } ∧ t.claims (.door d) = false)
            ∧ (k.state = .openState → t.door d =
              if s.tableValid 7 = true ∧ s.param 7 (11 * d.val + 9) = 1 ∧ s.edges[d].filtered = true then
                { k with reversals := count, closeDeferred := true }
              else { gone with state := .warning, reversals := count, tone := true })
            ∧ (k.state ≠ .locked → k.state ≠ .releaseWait → k.state ≠ .released → k.state ≠ .openState → t.door d = k)))
        ∧ t = { s with
            rear := t.rear, corners := t.corners, kneel := t.kneel, holdSet := t.holdSet, hold := t.hold, drive := t.drive
            axle := t.axle, doors := t.doors, seq := t.seq, vehicle := t.vehicle, faults := t.faults } ∧ s.OnlyNotices t)

/-- KNEEL-LOWER answers. In LEVEL the first test that fails gives the reason of the refusal; in RAISING it is refused; in the other
states nothing changes. Accepted, the KNEEL claim joins, which applies a RELEASED or RELEASING hold; the kneel waits in WAIT-HOLD
unless the hold then stands CONFIRMED; then it is LOWERING with the kneel corners' targets lowered, or, where the corners are at
their kneel targets already, KNELT, or on its way up again where the raise on drive is ON and the drive is asked. KNEEL-RAISE
answers. In LEVEL and RAISING nothing changes; from WAIT-HOLD the kneel is LEVEL and its claim gone; from LOWERING and KNELT it is
RAISING, its kneel corners at ride target in class 1, or LEVEL where they already meet the raising test. The timeout flag is kept
from WAIT-HOLD to LEVEL and where the kneel is lowered: DEDUCED (assumption 24). That a hold applied again from RELEASING may be
CONFIRMED at once is R127's, against R108: DEDUCED (assumption 57). -/
def Obligations.KneelRequestsTaken : Prop :=
  (∀ s : State,
    let reason : KneelRefusal :=
      if s.part ≠ .run then .notRun
      else if s.param 5 32 = 0 then .disabled
      else if s.motion.standstill = false then .moving
      else if predicate s 6 = false then .jointNotStraight
      else if s.faults.levels.height ≠ .full then .heightDegraded
      else if s.air.level ≠ .normal ∨ s.air.pressure < s.param 5 2 then .air
      else if ∃ c : Fin 6, (s.raw 5 9).getLsbD c.val = true ∧ (s.usable (.height c) = false ∨ (s.corner c).frozen = true)
        then .corner
      else .none
    let refused (r : KneelRefusal) : State :=
      sendNotice .kneelRefused [r.code, s.kneel.state.code, s.air.level.code, s.air.pressure]
        (s.setKneel { s.kneel with lastRefusal := r })
    let applies := (s.hold.state = .released ∨ s.hold.state = .releasing) ∧ s.claims .kneel = false
    let confirmed := s.hold.state = .confirmed ∨ applies ∧ confirmMet s = true
    ((s.kneel.state = .waitHold ∨ s.kneel.state = .lowering ∨ s.kneel.state = .knelt) → exec .kneelLower s = .next s)
    ∧ (s.kneel.state = .raising → exec .kneelLower s = .next (refused .raising))
    ∧ (s.kneel.state = .level → reason ≠ .none → exec .kneelLower s = .next (refused reason))
    ∧ (s.kneel.state = .level → reason = .none → ¬ confirmed →
      ∃ t, exec .kneelLower s = .next t ∧ t.kneel = { s.kneel with state := .waitHold, timer := 0 }
        ∧ t.claims .kneel = true
        ∧ (¬ applies → t.hold = s.hold)
        ∧ (applies → t.hold = { state := .applying, pressure := s.param 6 14, confirmTimer := 0, timeoutFlag := false })
        ∧ t = { s with
            kneel := t.kneel, holdSet := t.holdSet, hold := t.hold, drive := t.drive, axle := t.axle, corners := t.corners
            seq := t.seq, vehicle := t.vehicle, faults := t.faults } ∧ s.OnlyNotices t)
    ∧ (s.kneel.state = .level → reason = .none → confirmed →
      ∃ t, exec .kneelLower s = .next t
        ∧ (loweringDone s = false → t.kneel = { s.kneel with state := .lowering, timer := 0 })
        ∧ (loweringDone s = true → (s.param 5 34 ≠ 1 ∨ driveAsked s = false) →
          t.kneel = { s.kneel with state := .knelt, timer := 0 })
        ∧ (loweringDone s = true → s.param 5 34 = 1 → driveAsked s = true →
          t.kneel.timer = 0 ∧ t.kneel.timeoutFlag = false ∧ t.kneel.state = if raisingDone s = true then .level else .raising)
        ∧ (t.kneel.state ≠ .level → t.claims .kneel = true ∧ t.hold.pressure = (if applies then s.param 6 14 else s.hold.pressure))
        ∧ ((t.kneel.state = .lowering ∨ t.kneel.state = .knelt) → ∀ c : Fin 6, (s.raw 5 9).getLsbD c.val = true →
          (t.corner c).target = s.param 5 (3 + c.val) - s.param 5 10)
        ∧ (¬ applies → t = { s with
            kneel := t.kneel, holdSet := t.holdSet, hold := t.hold, drive := t.drive, axle := t.axle, corners := t.corners
            seq := t.seq, vehicle := t.vehicle, faults := t.faults })
        ∧ t = { s with
            kneel := t.kneel, holdSet := t.holdSet, hold := t.hold, drive := t.drive, axle := t.axle, corners := t.corners
            rear := t.rear, doors := t.doors, seq := t.seq, vehicle := t.vehicle, faults := t.faults } ∧ s.OnlyNotices t))
  ∧ (∀ s : State,
    ((s.kneel.state = .level ∨ s.kneel.state = .raising) → exec .kneelRaise s = .next s)
    ∧ (s.kneel.state = .waitHold →
      ∃ t, exec .kneelRaise s = .next t ∧ t.kneel = { s.kneel with state := .level, timer := 0 } ∧ t.claims .kneel = false
        ∧ t = { s with
            kneel := t.kneel, holdSet := t.holdSet, drive := t.drive, hold := t.hold, axle := t.axle, corners := t.corners
            seq := t.seq, vehicle := t.vehicle, faults := t.faults } ∧ s.OnlyNotices t)
    ∧ ((s.kneel.state = .lowering ∨ s.kneel.state = .knelt) → raisingDone s = true →
      ∃ t, exec .kneelRaise s = .next t
        ∧ t.kneel = { s.kneel with state := .level, timer := 0, timeoutFlag := false } ∧ t.claims .kneel = false
        ∧ t = { s with
            kneel := t.kneel, holdSet := t.holdSet, drive := t.drive, hold := t.hold, axle := t.axle, corners := t.corners
            seq := t.seq, vehicle := t.vehicle, faults := t.faults } ∧ s.OnlyNotices t)
    ∧ ((s.kneel.state = .lowering ∨ s.kneel.state = .knelt) → raisingDone s = false →
      ∃ t, exec .kneelRaise s = .next t
        ∧ t.kneel = { s.kneel with state := .raising, timer := 0, timeoutFlag := false }
        ∧ (∀ c : Fin 6, (s.raw 5 9).getLsbD c.val = true →
          (t.corner c).target = s.param 5 (3 + c.val) ∧ (t.corner c).cls = .one)
        ∧ t = { s with kneel := t.kneel, corners := t.corners, seq := t.seq, vehicle := t.vehicle } ∧ s.OnlyNotices t))

/-! ### Shared operations -/

/-- Raising a fault: the entry of the pair is activated again in its place, or a new entry stands at the end, in place of the
INACTIVE entry nearest the head where the list is full, or the overflow count rises where every entry is ACTIVE. Reporting a fault's
cause ended: with the pair absent or INACTIVE nothing changes; an ACTIVE entry has its cause ENDED, is INACTIVE with FAULT-HEALED
sent when its code is not latched, and stays ACTIVE without a notice when it is. -/
def Obligations.FaultRaisedAndEnded : Prop :=
  (∀ (u : FaultUnit) (c : FaultCode) (n : Nat) (cycle : BitVec 16),
    let r := raiseIn u c n cycle
    let isPair := fun e : FaultEntry => e.code = c ∧ e.subject = n
    let fresh : FaultEntry :=
      { code := c, subject := n, active := true, present := true, count := 1, first := cycle, last := cycle }
    ((∃ e ∈ u.list, isPair e) →
      r.unit.list = u.list.map (fun e => if e.code = c ∧ e.subject = n then
        { e with active := true, present := true, count := if e.count < 255 then e.count + 1 else e.count, last := cycle }
        else e)
      ∧ r.unit.overflow = u.overflow ∧ r.listed = true)
    ∧ ((∀ e ∈ u.list, ¬ isPair e) → u.list.length < 32 →
      r.unit.list = u.list ++ [fresh] ∧ r.unit.overflow = u.overflow ∧ r.listed = true ∧ r.count = 1)
    ∧ (∀ (pre post : List FaultEntry) (x : FaultEntry), (∀ e ∈ u.list, ¬ isPair e) → 32 ≤ u.list.length →
      u.list = pre ++ x :: post → (∀ e ∈ pre, e.active = true) → x.active = false →
      r.unit.list = pre ++ post ++ [fresh] ∧ r.unit.overflow = u.overflow ∧ r.listed = true ∧ r.removed = some x)
    ∧ ((∀ e ∈ u.list, ¬ isPair e) → 32 ≤ u.list.length → (∀ e ∈ u.list, e.active = true) →
      r.unit = { u with overflow := if u.overflow < 255 then u.overflow + 1 else u.overflow } ∧ r.listed = false
      ∧ r.count = 0))
  ∧ (∀ (s : State) (c : FaultCode) (n : Nat) (pre post : List FaultEntry) (e : FaultEntry),
    ((∀ x ∈ s.faults.list, ¬ (x.code = c ∧ x.subject = n)) → listEnd c n s = s)
    ∧ (s.FaultsSound → s.faults.list = pre ++ e :: post → e.code = c → e.subject = n →
      (e.active = false → listEnd c n s = s)
      ∧ (e.active = true → c.latched = true →
        listEnd c n s = s.setFaults (s.faults.withList (pre ++ { e with present := false } :: post)))
      ∧ (e.active = true → c.latched = false →
        listEnd c n s = sendNotice .faultHealed [c.code, n, 0, e.count]
          (s.setFaults (s.faults.withList (pre ++ { e with present := false, active := false } :: post))))))

/-- The fill-slot arbiter, from a state with no more than S corners filling: no more than S are filling after it, a slot left free
finds no permitted corner waiting, no permitted class-1 corner waits beside a class-2 holder, and only corner records change. -/
def Obligations.FillSlotsGranted : Prop :=
  ∀ s : State, (slotsHeld s : Int) ≤ s.param 5 19 →
    let t := arbitrate s
    (slotsHeld t : Int) ≤ s.param 5 19
    ∧ ((slotsHeld t : Int) < s.param 5 19 → waiting t = [])
    ∧ (waitingFirst t ≠ [] → holdersSecond t = [])
    ∧ (∀ c : Fin 6, (s.corner c).valve = .hold ∨ (s.corner c).valve = .exhausting → t.corner c = s.corner c)
    ∧ t = s.setCorners t.corners

/-! ### What every step keeps -/

/-- Every step keeps the queues of both ports within their places and the route conservation law at both ports. -/
def Obligations.StepKeepsFrames : Prop :=
  ∀ s t : State, s.QueuesBounded → s.FramesConserved → step s = .next t → t.QueuesBounded ∧ t.FramesConserved

/-- Every step keeps the fault list within 32 entries, no pair twice, with the levels and the lamps those the list gives; and every
step keeps every entry of a latched code ACTIVE. -/
def Obligations.StepKeepsFaults : Prop :=
  ∀ s t : State, step s = .next t → (s.FaultsSound → t.FaultsSound) ∧ (s.LatchedActive → t.LatchedActive)

/-- Every step keeps each holder at most once in the hold set, the drive inhibit on exactly while a claim stands, a claim for every
door that is not LOCKED, and the KNEEL claim while the kneel is not LEVEL. -/
def Obligations.StepKeepsHold : Prop :=
  ∀ s t : State, s.HoldSound → s.DoorsHeld → s.KneelHeld → step s = .next t → t.HoldSound ∧ t.DoorsHeld ∧ t.KneelHeld

/-- Every step keeps the tables sound: what is in use, COMPLETE or pending has passed the checks of LOAD-END, and the table that is
loading is in LOADING within its capacity. -/
def Obligations.StepKeepsTables : Prop :=
  ∀ s t : State, s.TablesSound → step s = .next t → t.TablesSound

/-- Every step keeps the part states sound, and with the tables sound the rear-steer target and command within 2000. -/
def Obligations.StepKeepsRear : Prop :=
  ∀ s t : State, s.RunSound → s.TablesSound → s.RearBounded → step s = .next t → t.RunSound ∧ t.RearBounded

/-- Every step, with the tables, the fault list and the part states sound, keeps the fill slots: no more corners fill than the
active T5 gives slots, none in CONFIG, and each only as the air level and the height level permit its class. -/
def Obligations.StepKeepsSlots : Prop :=
  ∀ s t : State, s.TablesSound → s.FaultsSound → s.RunSound → s.SlotsSound → step s = .next t → t.SlotsSound
end

