-- ==== Sys2Proof/Laws/State.lean ====
section
/-! SUPPORT. One lemma per field per update of State, and that each update with the field's own value changes nothing. -/

namespace Sys2Proof.Machine

set_option Elab.async false

variable (s : State)

/-! ### Updating `pending` -/

@[simp] theorem State.setPending_pending (x : List Instr) : (s.setPending x).pending = x := rfl
@[simp] theorem State.setPending_free (x : List Instr) : (s.setPending x).free = s.free := rfl
@[simp] theorem State.setPending_straps (x : List Instr) : (s.setPending x).straps = s.straps := rfl
@[simp] theorem State.setPending_station (x : List Instr) : (s.setPending x).station = s.station := rfl
@[simp] theorem State.setPending_vehicle (x : List Instr) : (s.setPending x).vehicle = s.vehicle := rfl
@[simp] theorem State.setPending_chassis (x : List Instr) : (s.setPending x).chassis = s.chassis := rfl
@[simp] theorem State.setPending_cycle (x : List Instr) : (s.setPending x).cycle = s.cycle := rfl
@[simp] theorem State.setPending_trim (x : List Instr) : (s.setPending x).trim = s.trim := rfl
@[simp] theorem State.setPending_seq (x : List Instr) : (s.setPending x).seq = s.seq := rfl
@[simp] theorem State.setPending_signals (x : List Instr) : (s.setPending x).signals = s.signals := rfl
@[simp] theorem State.setPending_motion (x : List Instr) : (s.setPending x).motion = s.motion := rfl
@[simp] theorem State.setPending_rear (x : List Instr) : (s.setPending x).rear = s.rear := rfl
@[simp] theorem State.setPending_joint (x : List Instr) : (s.setPending x).joint = s.joint := rfl
@[simp] theorem State.setPending_air (x : List Instr) : (s.setPending x).air = s.air := rfl
@[simp] theorem State.setPending_corners (x : List Instr) : (s.setPending x).corners = s.corners := rfl
@[simp] theorem State.setPending_loads (x : List Instr) : (s.setPending x).loads = s.loads := rfl
@[simp] theorem State.setPending_kneel (x : List Instr) : (s.setPending x).kneel = s.kneel := rfl
@[simp] theorem State.setPending_holdSet (x : List Instr) : (s.setPending x).holdSet = s.holdSet := rfl
@[simp] theorem State.setPending_hold (x : List Instr) : (s.setPending x).hold = s.hold := rfl
@[simp] theorem State.setPending_drive (x : List Instr) : (s.setPending x).drive = s.drive := rfl
@[simp] theorem State.setPending_axle (x : List Instr) : (s.setPending x).axle = s.axle := rfl
@[simp] theorem State.setPending_doors (x : List Instr) : (s.setPending x).doors = s.doors := rfl
@[simp] theorem State.setPending_edges (x : List Instr) : (s.setPending x).edges = s.edges := rfl
@[simp] theorem State.setPending_faults (x : List Instr) : (s.setPending x).faults = s.faults := rfl
@[simp] theorem State.setPending_tables (x : List Instr) : (s.setPending x).tables = s.tables := rfl
@[simp] theorem State.setPending_loading (x : List Instr) : (s.setPending x).loading = s.loading := rfl
@[simp] theorem State.setPending_cursor (x : List Instr) : (s.setPending x).cursor = s.cursor := rfl
@[simp] theorem State.setPending_part (x : List Instr) : (s.setPending x).part = s.part := rfl
@[simp] theorem State.setPending_resetPending (x : List Instr) : (s.setPending x).resetPending = s.resetPending := rfl
@[simp] theorem State.setPending_self : s.setPending s.pending = s := rfl
@[simp] theorem State.setPending_twice (x y : List Instr) : (s.setPending x).setPending y = s.setPending y := rfl

/-! ### Updating `free` -/

@[simp] theorem State.setFree_pending (x : Nat) : (s.setFree x).pending = s.pending := rfl
@[simp] theorem State.setFree_free (x : Nat) : (s.setFree x).free = x := rfl
@[simp] theorem State.setFree_straps (x : Nat) : (s.setFree x).straps = s.straps := rfl
@[simp] theorem State.setFree_station (x : Nat) : (s.setFree x).station = s.station := rfl
@[simp] theorem State.setFree_vehicle (x : Nat) : (s.setFree x).vehicle = s.vehicle := rfl
@[simp] theorem State.setFree_chassis (x : Nat) : (s.setFree x).chassis = s.chassis := rfl
@[simp] theorem State.setFree_cycle (x : Nat) : (s.setFree x).cycle = s.cycle := rfl
@[simp] theorem State.setFree_trim (x : Nat) : (s.setFree x).trim = s.trim := rfl
@[simp] theorem State.setFree_seq (x : Nat) : (s.setFree x).seq = s.seq := rfl
@[simp] theorem State.setFree_signals (x : Nat) : (s.setFree x).signals = s.signals := rfl
@[simp] theorem State.setFree_motion (x : Nat) : (s.setFree x).motion = s.motion := rfl
@[simp] theorem State.setFree_rear (x : Nat) : (s.setFree x).rear = s.rear := rfl
@[simp] theorem State.setFree_joint (x : Nat) : (s.setFree x).joint = s.joint := rfl
@[simp] theorem State.setFree_air (x : Nat) : (s.setFree x).air = s.air := rfl
@[simp] theorem State.setFree_corners (x : Nat) : (s.setFree x).corners = s.corners := rfl
@[simp] theorem State.setFree_loads (x : Nat) : (s.setFree x).loads = s.loads := rfl
@[simp] theorem State.setFree_kneel (x : Nat) : (s.setFree x).kneel = s.kneel := rfl
@[simp] theorem State.setFree_holdSet (x : Nat) : (s.setFree x).holdSet = s.holdSet := rfl
@[simp] theorem State.setFree_hold (x : Nat) : (s.setFree x).hold = s.hold := rfl
@[simp] theorem State.setFree_drive (x : Nat) : (s.setFree x).drive = s.drive := rfl
@[simp] theorem State.setFree_axle (x : Nat) : (s.setFree x).axle = s.axle := rfl
@[simp] theorem State.setFree_doors (x : Nat) : (s.setFree x).doors = s.doors := rfl
@[simp] theorem State.setFree_edges (x : Nat) : (s.setFree x).edges = s.edges := rfl
@[simp] theorem State.setFree_faults (x : Nat) : (s.setFree x).faults = s.faults := rfl
@[simp] theorem State.setFree_tables (x : Nat) : (s.setFree x).tables = s.tables := rfl
@[simp] theorem State.setFree_loading (x : Nat) : (s.setFree x).loading = s.loading := rfl
@[simp] theorem State.setFree_cursor (x : Nat) : (s.setFree x).cursor = s.cursor := rfl
@[simp] theorem State.setFree_part (x : Nat) : (s.setFree x).part = s.part := rfl
@[simp] theorem State.setFree_resetPending (x : Nat) : (s.setFree x).resetPending = s.resetPending := rfl
@[simp] theorem State.setFree_self : s.setFree s.free = s := rfl
@[simp] theorem State.setFree_twice (x y : Nat) : (s.setFree x).setFree y = s.setFree y := rfl

/-! ### Updating `straps` -/

@[simp] theorem State.setStraps_pending (x : BitVec 6) : (s.setStraps x).pending = s.pending := rfl
@[simp] theorem State.setStraps_free (x : BitVec 6) : (s.setStraps x).free = s.free := rfl
@[simp] theorem State.setStraps_straps (x : BitVec 6) : (s.setStraps x).straps = x := rfl
@[simp] theorem State.setStraps_station (x : BitVec 6) : (s.setStraps x).station = s.station := rfl
@[simp] theorem State.setStraps_vehicle (x : BitVec 6) : (s.setStraps x).vehicle = s.vehicle := rfl
@[simp] theorem State.setStraps_chassis (x : BitVec 6) : (s.setStraps x).chassis = s.chassis := rfl
@[simp] theorem State.setStraps_cycle (x : BitVec 6) : (s.setStraps x).cycle = s.cycle := rfl
@[simp] theorem State.setStraps_trim (x : BitVec 6) : (s.setStraps x).trim = s.trim := rfl
@[simp] theorem State.setStraps_seq (x : BitVec 6) : (s.setStraps x).seq = s.seq := rfl
@[simp] theorem State.setStraps_signals (x : BitVec 6) : (s.setStraps x).signals = s.signals := rfl
@[simp] theorem State.setStraps_motion (x : BitVec 6) : (s.setStraps x).motion = s.motion := rfl
@[simp] theorem State.setStraps_rear (x : BitVec 6) : (s.setStraps x).rear = s.rear := rfl
@[simp] theorem State.setStraps_joint (x : BitVec 6) : (s.setStraps x).joint = s.joint := rfl
@[simp] theorem State.setStraps_air (x : BitVec 6) : (s.setStraps x).air = s.air := rfl
@[simp] theorem State.setStraps_corners (x : BitVec 6) : (s.setStraps x).corners = s.corners := rfl
@[simp] theorem State.setStraps_loads (x : BitVec 6) : (s.setStraps x).loads = s.loads := rfl
@[simp] theorem State.setStraps_kneel (x : BitVec 6) : (s.setStraps x).kneel = s.kneel := rfl
@[simp] theorem State.setStraps_holdSet (x : BitVec 6) : (s.setStraps x).holdSet = s.holdSet := rfl
@[simp] theorem State.setStraps_hold (x : BitVec 6) : (s.setStraps x).hold = s.hold := rfl
@[simp] theorem State.setStraps_drive (x : BitVec 6) : (s.setStraps x).drive = s.drive := rfl
@[simp] theorem State.setStraps_axle (x : BitVec 6) : (s.setStraps x).axle = s.axle := rfl
@[simp] theorem State.setStraps_doors (x : BitVec 6) : (s.setStraps x).doors = s.doors := rfl
@[simp] theorem State.setStraps_edges (x : BitVec 6) : (s.setStraps x).edges = s.edges := rfl
@[simp] theorem State.setStraps_faults (x : BitVec 6) : (s.setStraps x).faults = s.faults := rfl
@[simp] theorem State.setStraps_tables (x : BitVec 6) : (s.setStraps x).tables = s.tables := rfl
@[simp] theorem State.setStraps_loading (x : BitVec 6) : (s.setStraps x).loading = s.loading := rfl
@[simp] theorem State.setStraps_cursor (x : BitVec 6) : (s.setStraps x).cursor = s.cursor := rfl
@[simp] theorem State.setStraps_part (x : BitVec 6) : (s.setStraps x).part = s.part := rfl
@[simp] theorem State.setStraps_resetPending (x : BitVec 6) : (s.setStraps x).resetPending = s.resetPending := rfl
@[simp] theorem State.setStraps_self : s.setStraps s.straps = s := rfl
@[simp] theorem State.setStraps_twice (x y : BitVec 6) : (s.setStraps x).setStraps y = s.setStraps y := rfl

/-! ### Updating `station` -/

@[simp] theorem State.setStation_pending (x : BitVec 6) : (s.setStation x).pending = s.pending := rfl
@[simp] theorem State.setStation_free (x : BitVec 6) : (s.setStation x).free = s.free := rfl
@[simp] theorem State.setStation_straps (x : BitVec 6) : (s.setStation x).straps = s.straps := rfl
@[simp] theorem State.setStation_station (x : BitVec 6) : (s.setStation x).station = x := rfl
@[simp] theorem State.setStation_vehicle (x : BitVec 6) : (s.setStation x).vehicle = s.vehicle := rfl
@[simp] theorem State.setStation_chassis (x : BitVec 6) : (s.setStation x).chassis = s.chassis := rfl
@[simp] theorem State.setStation_cycle (x : BitVec 6) : (s.setStation x).cycle = s.cycle := rfl
@[simp] theorem State.setStation_trim (x : BitVec 6) : (s.setStation x).trim = s.trim := rfl
@[simp] theorem State.setStation_seq (x : BitVec 6) : (s.setStation x).seq = s.seq := rfl
@[simp] theorem State.setStation_signals (x : BitVec 6) : (s.setStation x).signals = s.signals := rfl
@[simp] theorem State.setStation_motion (x : BitVec 6) : (s.setStation x).motion = s.motion := rfl
@[simp] theorem State.setStation_rear (x : BitVec 6) : (s.setStation x).rear = s.rear := rfl
@[simp] theorem State.setStation_joint (x : BitVec 6) : (s.setStation x).joint = s.joint := rfl
@[simp] theorem State.setStation_air (x : BitVec 6) : (s.setStation x).air = s.air := rfl
@[simp] theorem State.setStation_corners (x : BitVec 6) : (s.setStation x).corners = s.corners := rfl
@[simp] theorem State.setStation_loads (x : BitVec 6) : (s.setStation x).loads = s.loads := rfl
@[simp] theorem State.setStation_kneel (x : BitVec 6) : (s.setStation x).kneel = s.kneel := rfl
@[simp] theorem State.setStation_holdSet (x : BitVec 6) : (s.setStation x).holdSet = s.holdSet := rfl
@[simp] theorem State.setStation_hold (x : BitVec 6) : (s.setStation x).hold = s.hold := rfl
@[simp] theorem State.setStation_drive (x : BitVec 6) : (s.setStation x).drive = s.drive := rfl
@[simp] theorem State.setStation_axle (x : BitVec 6) : (s.setStation x).axle = s.axle := rfl
@[simp] theorem State.setStation_doors (x : BitVec 6) : (s.setStation x).doors = s.doors := rfl
@[simp] theorem State.setStation_edges (x : BitVec 6) : (s.setStation x).edges = s.edges := rfl
@[simp] theorem State.setStation_faults (x : BitVec 6) : (s.setStation x).faults = s.faults := rfl
@[simp] theorem State.setStation_tables (x : BitVec 6) : (s.setStation x).tables = s.tables := rfl
@[simp] theorem State.setStation_loading (x : BitVec 6) : (s.setStation x).loading = s.loading := rfl
@[simp] theorem State.setStation_cursor (x : BitVec 6) : (s.setStation x).cursor = s.cursor := rfl
@[simp] theorem State.setStation_part (x : BitVec 6) : (s.setStation x).part = s.part := rfl
@[simp] theorem State.setStation_resetPending (x : BitVec 6) : (s.setStation x).resetPending = s.resetPending := rfl
@[simp] theorem State.setStation_self : s.setStation s.station = s := rfl
@[simp] theorem State.setStation_twice (x y : BitVec 6) : (s.setStation x).setStation y = s.setStation y := rfl

/-! ### Updating `vehicle` -/

@[simp] theorem State.setVehicle_pending (x : PortState) : (s.setVehicle x).pending = s.pending := rfl
@[simp] theorem State.setVehicle_free (x : PortState) : (s.setVehicle x).free = s.free := rfl
@[simp] theorem State.setVehicle_straps (x : PortState) : (s.setVehicle x).straps = s.straps := rfl
@[simp] theorem State.setVehicle_station (x : PortState) : (s.setVehicle x).station = s.station := rfl
@[simp] theorem State.setVehicle_vehicle (x : PortState) : (s.setVehicle x).vehicle = x := rfl
@[simp] theorem State.setVehicle_chassis (x : PortState) : (s.setVehicle x).chassis = s.chassis := rfl
@[simp] theorem State.setVehicle_cycle (x : PortState) : (s.setVehicle x).cycle = s.cycle := rfl
@[simp] theorem State.setVehicle_trim (x : PortState) : (s.setVehicle x).trim = s.trim := rfl
@[simp] theorem State.setVehicle_seq (x : PortState) : (s.setVehicle x).seq = s.seq := rfl
@[simp] theorem State.setVehicle_signals (x : PortState) : (s.setVehicle x).signals = s.signals := rfl
@[simp] theorem State.setVehicle_motion (x : PortState) : (s.setVehicle x).motion = s.motion := rfl
@[simp] theorem State.setVehicle_rear (x : PortState) : (s.setVehicle x).rear = s.rear := rfl
@[simp] theorem State.setVehicle_joint (x : PortState) : (s.setVehicle x).joint = s.joint := rfl
@[simp] theorem State.setVehicle_air (x : PortState) : (s.setVehicle x).air = s.air := rfl
@[simp] theorem State.setVehicle_corners (x : PortState) : (s.setVehicle x).corners = s.corners := rfl
@[simp] theorem State.setVehicle_loads (x : PortState) : (s.setVehicle x).loads = s.loads := rfl
@[simp] theorem State.setVehicle_kneel (x : PortState) : (s.setVehicle x).kneel = s.kneel := rfl
@[simp] theorem State.setVehicle_holdSet (x : PortState) : (s.setVehicle x).holdSet = s.holdSet := rfl
@[simp] theorem State.setVehicle_hold (x : PortState) : (s.setVehicle x).hold = s.hold := rfl
@[simp] theorem State.setVehicle_drive (x : PortState) : (s.setVehicle x).drive = s.drive := rfl
@[simp] theorem State.setVehicle_axle (x : PortState) : (s.setVehicle x).axle = s.axle := rfl
@[simp] theorem State.setVehicle_doors (x : PortState) : (s.setVehicle x).doors = s.doors := rfl
@[simp] theorem State.setVehicle_edges (x : PortState) : (s.setVehicle x).edges = s.edges := rfl
@[simp] theorem State.setVehicle_faults (x : PortState) : (s.setVehicle x).faults = s.faults := rfl
@[simp] theorem State.setVehicle_tables (x : PortState) : (s.setVehicle x).tables = s.tables := rfl
@[simp] theorem State.setVehicle_loading (x : PortState) : (s.setVehicle x).loading = s.loading := rfl
@[simp] theorem State.setVehicle_cursor (x : PortState) : (s.setVehicle x).cursor = s.cursor := rfl
@[simp] theorem State.setVehicle_part (x : PortState) : (s.setVehicle x).part = s.part := rfl
@[simp] theorem State.setVehicle_resetPending (x : PortState) : (s.setVehicle x).resetPending = s.resetPending := rfl
@[simp] theorem State.setVehicle_self : s.setVehicle s.vehicle = s := rfl
@[simp] theorem State.setVehicle_twice (x y : PortState) : (s.setVehicle x).setVehicle y = s.setVehicle y := rfl

/-! ### Updating `chassis` -/

@[simp] theorem State.setChassis_pending (x : PortState) : (s.setChassis x).pending = s.pending := rfl
@[simp] theorem State.setChassis_free (x : PortState) : (s.setChassis x).free = s.free := rfl
@[simp] theorem State.setChassis_straps (x : PortState) : (s.setChassis x).straps = s.straps := rfl
@[simp] theorem State.setChassis_station (x : PortState) : (s.setChassis x).station = s.station := rfl
@[simp] theorem State.setChassis_vehicle (x : PortState) : (s.setChassis x).vehicle = s.vehicle := rfl
@[simp] theorem State.setChassis_chassis (x : PortState) : (s.setChassis x).chassis = x := rfl
@[simp] theorem State.setChassis_cycle (x : PortState) : (s.setChassis x).cycle = s.cycle := rfl
@[simp] theorem State.setChassis_trim (x : PortState) : (s.setChassis x).trim = s.trim := rfl
@[simp] theorem State.setChassis_seq (x : PortState) : (s.setChassis x).seq = s.seq := rfl
@[simp] theorem State.setChassis_signals (x : PortState) : (s.setChassis x).signals = s.signals := rfl
@[simp] theorem State.setChassis_motion (x : PortState) : (s.setChassis x).motion = s.motion := rfl
@[simp] theorem State.setChassis_rear (x : PortState) : (s.setChassis x).rear = s.rear := rfl
@[simp] theorem State.setChassis_joint (x : PortState) : (s.setChassis x).joint = s.joint := rfl
@[simp] theorem State.setChassis_air (x : PortState) : (s.setChassis x).air = s.air := rfl
@[simp] theorem State.setChassis_corners (x : PortState) : (s.setChassis x).corners = s.corners := rfl
@[simp] theorem State.setChassis_loads (x : PortState) : (s.setChassis x).loads = s.loads := rfl
@[simp] theorem State.setChassis_kneel (x : PortState) : (s.setChassis x).kneel = s.kneel := rfl
@[simp] theorem State.setChassis_holdSet (x : PortState) : (s.setChassis x).holdSet = s.holdSet := rfl
@[simp] theorem State.setChassis_hold (x : PortState) : (s.setChassis x).hold = s.hold := rfl
@[simp] theorem State.setChassis_drive (x : PortState) : (s.setChassis x).drive = s.drive := rfl
@[simp] theorem State.setChassis_axle (x : PortState) : (s.setChassis x).axle = s.axle := rfl
@[simp] theorem State.setChassis_doors (x : PortState) : (s.setChassis x).doors = s.doors := rfl
@[simp] theorem State.setChassis_edges (x : PortState) : (s.setChassis x).edges = s.edges := rfl
@[simp] theorem State.setChassis_faults (x : PortState) : (s.setChassis x).faults = s.faults := rfl
@[simp] theorem State.setChassis_tables (x : PortState) : (s.setChassis x).tables = s.tables := rfl
@[simp] theorem State.setChassis_loading (x : PortState) : (s.setChassis x).loading = s.loading := rfl
@[simp] theorem State.setChassis_cursor (x : PortState) : (s.setChassis x).cursor = s.cursor := rfl
@[simp] theorem State.setChassis_part (x : PortState) : (s.setChassis x).part = s.part := rfl
@[simp] theorem State.setChassis_resetPending (x : PortState) : (s.setChassis x).resetPending = s.resetPending := rfl
@[simp] theorem State.setChassis_self : s.setChassis s.chassis = s := rfl
@[simp] theorem State.setChassis_twice (x y : PortState) : (s.setChassis x).setChassis y = s.setChassis y := rfl

/-! ### Updating `cycle` -/

@[simp] theorem State.setCycle_pending (x : BitVec 16) : (s.setCycle x).pending = s.pending := rfl
@[simp] theorem State.setCycle_free (x : BitVec 16) : (s.setCycle x).free = s.free := rfl
@[simp] theorem State.setCycle_straps (x : BitVec 16) : (s.setCycle x).straps = s.straps := rfl
@[simp] theorem State.setCycle_station (x : BitVec 16) : (s.setCycle x).station = s.station := rfl
@[simp] theorem State.setCycle_vehicle (x : BitVec 16) : (s.setCycle x).vehicle = s.vehicle := rfl
@[simp] theorem State.setCycle_chassis (x : BitVec 16) : (s.setCycle x).chassis = s.chassis := rfl
@[simp] theorem State.setCycle_cycle (x : BitVec 16) : (s.setCycle x).cycle = x := rfl
@[simp] theorem State.setCycle_trim (x : BitVec 16) : (s.setCycle x).trim = s.trim := rfl
@[simp] theorem State.setCycle_seq (x : BitVec 16) : (s.setCycle x).seq = s.seq := rfl
@[simp] theorem State.setCycle_signals (x : BitVec 16) : (s.setCycle x).signals = s.signals := rfl
@[simp] theorem State.setCycle_motion (x : BitVec 16) : (s.setCycle x).motion = s.motion := rfl
@[simp] theorem State.setCycle_rear (x : BitVec 16) : (s.setCycle x).rear = s.rear := rfl
@[simp] theorem State.setCycle_joint (x : BitVec 16) : (s.setCycle x).joint = s.joint := rfl
@[simp] theorem State.setCycle_air (x : BitVec 16) : (s.setCycle x).air = s.air := rfl
@[simp] theorem State.setCycle_corners (x : BitVec 16) : (s.setCycle x).corners = s.corners := rfl
@[simp] theorem State.setCycle_loads (x : BitVec 16) : (s.setCycle x).loads = s.loads := rfl
@[simp] theorem State.setCycle_kneel (x : BitVec 16) : (s.setCycle x).kneel = s.kneel := rfl
@[simp] theorem State.setCycle_holdSet (x : BitVec 16) : (s.setCycle x).holdSet = s.holdSet := rfl
@[simp] theorem State.setCycle_hold (x : BitVec 16) : (s.setCycle x).hold = s.hold := rfl
@[simp] theorem State.setCycle_drive (x : BitVec 16) : (s.setCycle x).drive = s.drive := rfl
@[simp] theorem State.setCycle_axle (x : BitVec 16) : (s.setCycle x).axle = s.axle := rfl
@[simp] theorem State.setCycle_doors (x : BitVec 16) : (s.setCycle x).doors = s.doors := rfl
@[simp] theorem State.setCycle_edges (x : BitVec 16) : (s.setCycle x).edges = s.edges := rfl
@[simp] theorem State.setCycle_faults (x : BitVec 16) : (s.setCycle x).faults = s.faults := rfl
@[simp] theorem State.setCycle_tables (x : BitVec 16) : (s.setCycle x).tables = s.tables := rfl
@[simp] theorem State.setCycle_loading (x : BitVec 16) : (s.setCycle x).loading = s.loading := rfl
@[simp] theorem State.setCycle_cursor (x : BitVec 16) : (s.setCycle x).cursor = s.cursor := rfl
@[simp] theorem State.setCycle_part (x : BitVec 16) : (s.setCycle x).part = s.part := rfl
@[simp] theorem State.setCycle_resetPending (x : BitVec 16) : (s.setCycle x).resetPending = s.resetPending := rfl
@[simp] theorem State.setCycle_self : s.setCycle s.cycle = s := rfl
@[simp] theorem State.setCycle_twice (x y : BitVec 16) : (s.setCycle x).setCycle y = s.setCycle y := rfl

/-! ### Updating `trim` -/

@[simp] theorem State.setTrim_pending (x : Int) : (s.setTrim x).pending = s.pending := rfl
@[simp] theorem State.setTrim_free (x : Int) : (s.setTrim x).free = s.free := rfl
@[simp] theorem State.setTrim_straps (x : Int) : (s.setTrim x).straps = s.straps := rfl
@[simp] theorem State.setTrim_station (x : Int) : (s.setTrim x).station = s.station := rfl
@[simp] theorem State.setTrim_vehicle (x : Int) : (s.setTrim x).vehicle = s.vehicle := rfl
@[simp] theorem State.setTrim_chassis (x : Int) : (s.setTrim x).chassis = s.chassis := rfl
@[simp] theorem State.setTrim_cycle (x : Int) : (s.setTrim x).cycle = s.cycle := rfl
@[simp] theorem State.setTrim_trim (x : Int) : (s.setTrim x).trim = x := rfl
@[simp] theorem State.setTrim_seq (x : Int) : (s.setTrim x).seq = s.seq := rfl
@[simp] theorem State.setTrim_signals (x : Int) : (s.setTrim x).signals = s.signals := rfl
@[simp] theorem State.setTrim_motion (x : Int) : (s.setTrim x).motion = s.motion := rfl
@[simp] theorem State.setTrim_rear (x : Int) : (s.setTrim x).rear = s.rear := rfl
@[simp] theorem State.setTrim_joint (x : Int) : (s.setTrim x).joint = s.joint := rfl
@[simp] theorem State.setTrim_air (x : Int) : (s.setTrim x).air = s.air := rfl
@[simp] theorem State.setTrim_corners (x : Int) : (s.setTrim x).corners = s.corners := rfl
@[simp] theorem State.setTrim_loads (x : Int) : (s.setTrim x).loads = s.loads := rfl
@[simp] theorem State.setTrim_kneel (x : Int) : (s.setTrim x).kneel = s.kneel := rfl
@[simp] theorem State.setTrim_holdSet (x : Int) : (s.setTrim x).holdSet = s.holdSet := rfl
@[simp] theorem State.setTrim_hold (x : Int) : (s.setTrim x).hold = s.hold := rfl
@[simp] theorem State.setTrim_drive (x : Int) : (s.setTrim x).drive = s.drive := rfl
@[simp] theorem State.setTrim_axle (x : Int) : (s.setTrim x).axle = s.axle := rfl
@[simp] theorem State.setTrim_doors (x : Int) : (s.setTrim x).doors = s.doors := rfl
@[simp] theorem State.setTrim_edges (x : Int) : (s.setTrim x).edges = s.edges := rfl
@[simp] theorem State.setTrim_faults (x : Int) : (s.setTrim x).faults = s.faults := rfl
@[simp] theorem State.setTrim_tables (x : Int) : (s.setTrim x).tables = s.tables := rfl
@[simp] theorem State.setTrim_loading (x : Int) : (s.setTrim x).loading = s.loading := rfl
@[simp] theorem State.setTrim_cursor (x : Int) : (s.setTrim x).cursor = s.cursor := rfl
@[simp] theorem State.setTrim_part (x : Int) : (s.setTrim x).part = s.part := rfl
@[simp] theorem State.setTrim_resetPending (x : Int) : (s.setTrim x).resetPending = s.resetPending := rfl
@[simp] theorem State.setTrim_self : s.setTrim s.trim = s := rfl
@[simp] theorem State.setTrim_twice (x y : Int) : (s.setTrim x).setTrim y = s.setTrim y := rfl

/-! ### Updating `seq` -/

@[simp] theorem State.setSeq_pending (x : SeqCounters) : (s.setSeq x).pending = s.pending := rfl
@[simp] theorem State.setSeq_free (x : SeqCounters) : (s.setSeq x).free = s.free := rfl
@[simp] theorem State.setSeq_straps (x : SeqCounters) : (s.setSeq x).straps = s.straps := rfl
@[simp] theorem State.setSeq_station (x : SeqCounters) : (s.setSeq x).station = s.station := rfl
@[simp] theorem State.setSeq_vehicle (x : SeqCounters) : (s.setSeq x).vehicle = s.vehicle := rfl
@[simp] theorem State.setSeq_chassis (x : SeqCounters) : (s.setSeq x).chassis = s.chassis := rfl
@[simp] theorem State.setSeq_cycle (x : SeqCounters) : (s.setSeq x).cycle = s.cycle := rfl
@[simp] theorem State.setSeq_trim (x : SeqCounters) : (s.setSeq x).trim = s.trim := rfl
@[simp] theorem State.setSeq_seq (x : SeqCounters) : (s.setSeq x).seq = x := rfl
@[simp] theorem State.setSeq_signals (x : SeqCounters) : (s.setSeq x).signals = s.signals := rfl
@[simp] theorem State.setSeq_motion (x : SeqCounters) : (s.setSeq x).motion = s.motion := rfl
@[simp] theorem State.setSeq_rear (x : SeqCounters) : (s.setSeq x).rear = s.rear := rfl
@[simp] theorem State.setSeq_joint (x : SeqCounters) : (s.setSeq x).joint = s.joint := rfl
@[simp] theorem State.setSeq_air (x : SeqCounters) : (s.setSeq x).air = s.air := rfl
@[simp] theorem State.setSeq_corners (x : SeqCounters) : (s.setSeq x).corners = s.corners := rfl
@[simp] theorem State.setSeq_loads (x : SeqCounters) : (s.setSeq x).loads = s.loads := rfl
@[simp] theorem State.setSeq_kneel (x : SeqCounters) : (s.setSeq x).kneel = s.kneel := rfl
@[simp] theorem State.setSeq_holdSet (x : SeqCounters) : (s.setSeq x).holdSet = s.holdSet := rfl
@[simp] theorem State.setSeq_hold (x : SeqCounters) : (s.setSeq x).hold = s.hold := rfl
@[simp] theorem State.setSeq_drive (x : SeqCounters) : (s.setSeq x).drive = s.drive := rfl
@[simp] theorem State.setSeq_axle (x : SeqCounters) : (s.setSeq x).axle = s.axle := rfl
@[simp] theorem State.setSeq_doors (x : SeqCounters) : (s.setSeq x).doors = s.doors := rfl
@[simp] theorem State.setSeq_edges (x : SeqCounters) : (s.setSeq x).edges = s.edges := rfl
@[simp] theorem State.setSeq_faults (x : SeqCounters) : (s.setSeq x).faults = s.faults := rfl
@[simp] theorem State.setSeq_tables (x : SeqCounters) : (s.setSeq x).tables = s.tables := rfl
@[simp] theorem State.setSeq_loading (x : SeqCounters) : (s.setSeq x).loading = s.loading := rfl
@[simp] theorem State.setSeq_cursor (x : SeqCounters) : (s.setSeq x).cursor = s.cursor := rfl
@[simp] theorem State.setSeq_part (x : SeqCounters) : (s.setSeq x).part = s.part := rfl
@[simp] theorem State.setSeq_resetPending (x : SeqCounters) : (s.setSeq x).resetPending = s.resetPending := rfl
@[simp] theorem State.setSeq_self : s.setSeq s.seq = s := rfl
@[simp] theorem State.setSeq_twice (x y : SeqCounters) : (s.setSeq x).setSeq y = s.setSeq y := rfl

/-! ### Updating `signals` -/

@[simp] theorem State.setSignals_pending (x : Vector SigRec 96) : (s.setSignals x).pending = s.pending := rfl
@[simp] theorem State.setSignals_free (x : Vector SigRec 96) : (s.setSignals x).free = s.free := rfl
@[simp] theorem State.setSignals_straps (x : Vector SigRec 96) : (s.setSignals x).straps = s.straps := rfl
@[simp] theorem State.setSignals_station (x : Vector SigRec 96) : (s.setSignals x).station = s.station := rfl
@[simp] theorem State.setSignals_vehicle (x : Vector SigRec 96) : (s.setSignals x).vehicle = s.vehicle := rfl
@[simp] theorem State.setSignals_chassis (x : Vector SigRec 96) : (s.setSignals x).chassis = s.chassis := rfl
@[simp] theorem State.setSignals_cycle (x : Vector SigRec 96) : (s.setSignals x).cycle = s.cycle := rfl
@[simp] theorem State.setSignals_trim (x : Vector SigRec 96) : (s.setSignals x).trim = s.trim := rfl
@[simp] theorem State.setSignals_seq (x : Vector SigRec 96) : (s.setSignals x).seq = s.seq := rfl
@[simp] theorem State.setSignals_signals (x : Vector SigRec 96) : (s.setSignals x).signals = x := rfl
@[simp] theorem State.setSignals_motion (x : Vector SigRec 96) : (s.setSignals x).motion = s.motion := rfl
@[simp] theorem State.setSignals_rear (x : Vector SigRec 96) : (s.setSignals x).rear = s.rear := rfl
@[simp] theorem State.setSignals_joint (x : Vector SigRec 96) : (s.setSignals x).joint = s.joint := rfl
@[simp] theorem State.setSignals_air (x : Vector SigRec 96) : (s.setSignals x).air = s.air := rfl
@[simp] theorem State.setSignals_corners (x : Vector SigRec 96) : (s.setSignals x).corners = s.corners := rfl
@[simp] theorem State.setSignals_loads (x : Vector SigRec 96) : (s.setSignals x).loads = s.loads := rfl
@[simp] theorem State.setSignals_kneel (x : Vector SigRec 96) : (s.setSignals x).kneel = s.kneel := rfl
@[simp] theorem State.setSignals_holdSet (x : Vector SigRec 96) : (s.setSignals x).holdSet = s.holdSet := rfl
@[simp] theorem State.setSignals_hold (x : Vector SigRec 96) : (s.setSignals x).hold = s.hold := rfl
@[simp] theorem State.setSignals_drive (x : Vector SigRec 96) : (s.setSignals x).drive = s.drive := rfl
@[simp] theorem State.setSignals_axle (x : Vector SigRec 96) : (s.setSignals x).axle = s.axle := rfl
@[simp] theorem State.setSignals_doors (x : Vector SigRec 96) : (s.setSignals x).doors = s.doors := rfl
@[simp] theorem State.setSignals_edges (x : Vector SigRec 96) : (s.setSignals x).edges = s.edges := rfl
@[simp] theorem State.setSignals_faults (x : Vector SigRec 96) : (s.setSignals x).faults = s.faults := rfl
@[simp] theorem State.setSignals_tables (x : Vector SigRec 96) : (s.setSignals x).tables = s.tables := rfl
@[simp] theorem State.setSignals_loading (x : Vector SigRec 96) : (s.setSignals x).loading = s.loading := rfl
@[simp] theorem State.setSignals_cursor (x : Vector SigRec 96) : (s.setSignals x).cursor = s.cursor := rfl
@[simp] theorem State.setSignals_part (x : Vector SigRec 96) : (s.setSignals x).part = s.part := rfl
@[simp] theorem State.setSignals_resetPending (x : Vector SigRec 96) : (s.setSignals x).resetPending = s.resetPending := rfl
@[simp] theorem State.setSignals_self : s.setSignals s.signals = s := rfl
@[simp] theorem State.setSignals_twice (x y : Vector SigRec 96) : (s.setSignals x).setSignals y = s.setSignals y := rfl

/-! ### Updating `motion` -/

@[simp] theorem State.setMotion_pending (x : Motion) : (s.setMotion x).pending = s.pending := rfl
@[simp] theorem State.setMotion_free (x : Motion) : (s.setMotion x).free = s.free := rfl
@[simp] theorem State.setMotion_straps (x : Motion) : (s.setMotion x).straps = s.straps := rfl
@[simp] theorem State.setMotion_station (x : Motion) : (s.setMotion x).station = s.station := rfl
@[simp] theorem State.setMotion_vehicle (x : Motion) : (s.setMotion x).vehicle = s.vehicle := rfl
@[simp] theorem State.setMotion_chassis (x : Motion) : (s.setMotion x).chassis = s.chassis := rfl
@[simp] theorem State.setMotion_cycle (x : Motion) : (s.setMotion x).cycle = s.cycle := rfl
@[simp] theorem State.setMotion_trim (x : Motion) : (s.setMotion x).trim = s.trim := rfl
@[simp] theorem State.setMotion_seq (x : Motion) : (s.setMotion x).seq = s.seq := rfl
@[simp] theorem State.setMotion_signals (x : Motion) : (s.setMotion x).signals = s.signals := rfl
@[simp] theorem State.setMotion_motion (x : Motion) : (s.setMotion x).motion = x := rfl
@[simp] theorem State.setMotion_rear (x : Motion) : (s.setMotion x).rear = s.rear := rfl
@[simp] theorem State.setMotion_joint (x : Motion) : (s.setMotion x).joint = s.joint := rfl
@[simp] theorem State.setMotion_air (x : Motion) : (s.setMotion x).air = s.air := rfl
@[simp] theorem State.setMotion_corners (x : Motion) : (s.setMotion x).corners = s.corners := rfl
@[simp] theorem State.setMotion_loads (x : Motion) : (s.setMotion x).loads = s.loads := rfl
@[simp] theorem State.setMotion_kneel (x : Motion) : (s.setMotion x).kneel = s.kneel := rfl
@[simp] theorem State.setMotion_holdSet (x : Motion) : (s.setMotion x).holdSet = s.holdSet := rfl
@[simp] theorem State.setMotion_hold (x : Motion) : (s.setMotion x).hold = s.hold := rfl
@[simp] theorem State.setMotion_drive (x : Motion) : (s.setMotion x).drive = s.drive := rfl
@[simp] theorem State.setMotion_axle (x : Motion) : (s.setMotion x).axle = s.axle := rfl
@[simp] theorem State.setMotion_doors (x : Motion) : (s.setMotion x).doors = s.doors := rfl
@[simp] theorem State.setMotion_edges (x : Motion) : (s.setMotion x).edges = s.edges := rfl
@[simp] theorem State.setMotion_faults (x : Motion) : (s.setMotion x).faults = s.faults := rfl
@[simp] theorem State.setMotion_tables (x : Motion) : (s.setMotion x).tables = s.tables := rfl
@[simp] theorem State.setMotion_loading (x : Motion) : (s.setMotion x).loading = s.loading := rfl
@[simp] theorem State.setMotion_cursor (x : Motion) : (s.setMotion x).cursor = s.cursor := rfl
@[simp] theorem State.setMotion_part (x : Motion) : (s.setMotion x).part = s.part := rfl
@[simp] theorem State.setMotion_resetPending (x : Motion) : (s.setMotion x).resetPending = s.resetPending := rfl
@[simp] theorem State.setMotion_self : s.setMotion s.motion = s := rfl
@[simp] theorem State.setMotion_twice (x y : Motion) : (s.setMotion x).setMotion y = s.setMotion y := rfl

/-! ### Updating `rear` -/

@[simp] theorem State.setRear_pending (x : RearSteer) : (s.setRear x).pending = s.pending := rfl
@[simp] theorem State.setRear_free (x : RearSteer) : (s.setRear x).free = s.free := rfl
@[simp] theorem State.setRear_straps (x : RearSteer) : (s.setRear x).straps = s.straps := rfl
@[simp] theorem State.setRear_station (x : RearSteer) : (s.setRear x).station = s.station := rfl
@[simp] theorem State.setRear_vehicle (x : RearSteer) : (s.setRear x).vehicle = s.vehicle := rfl
@[simp] theorem State.setRear_chassis (x : RearSteer) : (s.setRear x).chassis = s.chassis := rfl
@[simp] theorem State.setRear_cycle (x : RearSteer) : (s.setRear x).cycle = s.cycle := rfl
@[simp] theorem State.setRear_trim (x : RearSteer) : (s.setRear x).trim = s.trim := rfl
@[simp] theorem State.setRear_seq (x : RearSteer) : (s.setRear x).seq = s.seq := rfl
@[simp] theorem State.setRear_signals (x : RearSteer) : (s.setRear x).signals = s.signals := rfl
@[simp] theorem State.setRear_motion (x : RearSteer) : (s.setRear x).motion = s.motion := rfl
@[simp] theorem State.setRear_rear (x : RearSteer) : (s.setRear x).rear = x := rfl
@[simp] theorem State.setRear_joint (x : RearSteer) : (s.setRear x).joint = s.joint := rfl
@[simp] theorem State.setRear_air (x : RearSteer) : (s.setRear x).air = s.air := rfl
@[simp] theorem State.setRear_corners (x : RearSteer) : (s.setRear x).corners = s.corners := rfl
@[simp] theorem State.setRear_loads (x : RearSteer) : (s.setRear x).loads = s.loads := rfl
@[simp] theorem State.setRear_kneel (x : RearSteer) : (s.setRear x).kneel = s.kneel := rfl
@[simp] theorem State.setRear_holdSet (x : RearSteer) : (s.setRear x).holdSet = s.holdSet := rfl
@[simp] theorem State.setRear_hold (x : RearSteer) : (s.setRear x).hold = s.hold := rfl
@[simp] theorem State.setRear_drive (x : RearSteer) : (s.setRear x).drive = s.drive := rfl
@[simp] theorem State.setRear_axle (x : RearSteer) : (s.setRear x).axle = s.axle := rfl
@[simp] theorem State.setRear_doors (x : RearSteer) : (s.setRear x).doors = s.doors := rfl
@[simp] theorem State.setRear_edges (x : RearSteer) : (s.setRear x).edges = s.edges := rfl
@[simp] theorem State.setRear_faults (x : RearSteer) : (s.setRear x).faults = s.faults := rfl
@[simp] theorem State.setRear_tables (x : RearSteer) : (s.setRear x).tables = s.tables := rfl
@[simp] theorem State.setRear_loading (x : RearSteer) : (s.setRear x).loading = s.loading := rfl
@[simp] theorem State.setRear_cursor (x : RearSteer) : (s.setRear x).cursor = s.cursor := rfl
@[simp] theorem State.setRear_part (x : RearSteer) : (s.setRear x).part = s.part := rfl
@[simp] theorem State.setRear_resetPending (x : RearSteer) : (s.setRear x).resetPending = s.resetPending := rfl
@[simp] theorem State.setRear_self : s.setRear s.rear = s := rfl
@[simp] theorem State.setRear_twice (x y : RearSteer) : (s.setRear x).setRear y = s.setRear y := rfl

/-! ### Updating `joint` -/

@[simp] theorem State.setJoint_pending (x : Joint) : (s.setJoint x).pending = s.pending := rfl
@[simp] theorem State.setJoint_free (x : Joint) : (s.setJoint x).free = s.free := rfl
@[simp] theorem State.setJoint_straps (x : Joint) : (s.setJoint x).straps = s.straps := rfl
@[simp] theorem State.setJoint_station (x : Joint) : (s.setJoint x).station = s.station := rfl
@[simp] theorem State.setJoint_vehicle (x : Joint) : (s.setJoint x).vehicle = s.vehicle := rfl
@[simp] theorem State.setJoint_chassis (x : Joint) : (s.setJoint x).chassis = s.chassis := rfl
@[simp] theorem State.setJoint_cycle (x : Joint) : (s.setJoint x).cycle = s.cycle := rfl
@[simp] theorem State.setJoint_trim (x : Joint) : (s.setJoint x).trim = s.trim := rfl
@[simp] theorem State.setJoint_seq (x : Joint) : (s.setJoint x).seq = s.seq := rfl
@[simp] theorem State.setJoint_signals (x : Joint) : (s.setJoint x).signals = s.signals := rfl
@[simp] theorem State.setJoint_motion (x : Joint) : (s.setJoint x).motion = s.motion := rfl
@[simp] theorem State.setJoint_rear (x : Joint) : (s.setJoint x).rear = s.rear := rfl
@[simp] theorem State.setJoint_joint (x : Joint) : (s.setJoint x).joint = x := rfl
@[simp] theorem State.setJoint_air (x : Joint) : (s.setJoint x).air = s.air := rfl
@[simp] theorem State.setJoint_corners (x : Joint) : (s.setJoint x).corners = s.corners := rfl
@[simp] theorem State.setJoint_loads (x : Joint) : (s.setJoint x).loads = s.loads := rfl
@[simp] theorem State.setJoint_kneel (x : Joint) : (s.setJoint x).kneel = s.kneel := rfl
@[simp] theorem State.setJoint_holdSet (x : Joint) : (s.setJoint x).holdSet = s.holdSet := rfl
@[simp] theorem State.setJoint_hold (x : Joint) : (s.setJoint x).hold = s.hold := rfl
@[simp] theorem State.setJoint_drive (x : Joint) : (s.setJoint x).drive = s.drive := rfl
@[simp] theorem State.setJoint_axle (x : Joint) : (s.setJoint x).axle = s.axle := rfl
@[simp] theorem State.setJoint_doors (x : Joint) : (s.setJoint x).doors = s.doors := rfl
@[simp] theorem State.setJoint_edges (x : Joint) : (s.setJoint x).edges = s.edges := rfl
@[simp] theorem State.setJoint_faults (x : Joint) : (s.setJoint x).faults = s.faults := rfl
@[simp] theorem State.setJoint_tables (x : Joint) : (s.setJoint x).tables = s.tables := rfl
@[simp] theorem State.setJoint_loading (x : Joint) : (s.setJoint x).loading = s.loading := rfl
@[simp] theorem State.setJoint_cursor (x : Joint) : (s.setJoint x).cursor = s.cursor := rfl
@[simp] theorem State.setJoint_part (x : Joint) : (s.setJoint x).part = s.part := rfl
@[simp] theorem State.setJoint_resetPending (x : Joint) : (s.setJoint x).resetPending = s.resetPending := rfl
@[simp] theorem State.setJoint_self : s.setJoint s.joint = s := rfl
@[simp] theorem State.setJoint_twice (x y : Joint) : (s.setJoint x).setJoint y = s.setJoint y := rfl

/-! ### Updating `air` -/

@[simp] theorem State.setAir_pending (x : Air) : (s.setAir x).pending = s.pending := rfl
@[simp] theorem State.setAir_free (x : Air) : (s.setAir x).free = s.free := rfl
@[simp] theorem State.setAir_straps (x : Air) : (s.setAir x).straps = s.straps := rfl
@[simp] theorem State.setAir_station (x : Air) : (s.setAir x).station = s.station := rfl
@[simp] theorem State.setAir_vehicle (x : Air) : (s.setAir x).vehicle = s.vehicle := rfl
@[simp] theorem State.setAir_chassis (x : Air) : (s.setAir x).chassis = s.chassis := rfl
@[simp] theorem State.setAir_cycle (x : Air) : (s.setAir x).cycle = s.cycle := rfl
@[simp] theorem State.setAir_trim (x : Air) : (s.setAir x).trim = s.trim := rfl
@[simp] theorem State.setAir_seq (x : Air) : (s.setAir x).seq = s.seq := rfl
@[simp] theorem State.setAir_signals (x : Air) : (s.setAir x).signals = s.signals := rfl
@[simp] theorem State.setAir_motion (x : Air) : (s.setAir x).motion = s.motion := rfl
@[simp] theorem State.setAir_rear (x : Air) : (s.setAir x).rear = s.rear := rfl
@[simp] theorem State.setAir_joint (x : Air) : (s.setAir x).joint = s.joint := rfl
@[simp] theorem State.setAir_air (x : Air) : (s.setAir x).air = x := rfl
@[simp] theorem State.setAir_corners (x : Air) : (s.setAir x).corners = s.corners := rfl
@[simp] theorem State.setAir_loads (x : Air) : (s.setAir x).loads = s.loads := rfl
@[simp] theorem State.setAir_kneel (x : Air) : (s.setAir x).kneel = s.kneel := rfl
@[simp] theorem State.setAir_holdSet (x : Air) : (s.setAir x).holdSet = s.holdSet := rfl
@[simp] theorem State.setAir_hold (x : Air) : (s.setAir x).hold = s.hold := rfl
@[simp] theorem State.setAir_drive (x : Air) : (s.setAir x).drive = s.drive := rfl
@[simp] theorem State.setAir_axle (x : Air) : (s.setAir x).axle = s.axle := rfl
@[simp] theorem State.setAir_doors (x : Air) : (s.setAir x).doors = s.doors := rfl
@[simp] theorem State.setAir_edges (x : Air) : (s.setAir x).edges = s.edges := rfl
@[simp] theorem State.setAir_faults (x : Air) : (s.setAir x).faults = s.faults := rfl
@[simp] theorem State.setAir_tables (x : Air) : (s.setAir x).tables = s.tables := rfl
@[simp] theorem State.setAir_loading (x : Air) : (s.setAir x).loading = s.loading := rfl
@[simp] theorem State.setAir_cursor (x : Air) : (s.setAir x).cursor = s.cursor := rfl
@[simp] theorem State.setAir_part (x : Air) : (s.setAir x).part = s.part := rfl
@[simp] theorem State.setAir_resetPending (x : Air) : (s.setAir x).resetPending = s.resetPending := rfl
@[simp] theorem State.setAir_self : s.setAir s.air = s := rfl
@[simp] theorem State.setAir_twice (x y : Air) : (s.setAir x).setAir y = s.setAir y := rfl

/-! ### Updating `corners` -/

@[simp] theorem State.setCorners_pending (x : Vector Corner 6) : (s.setCorners x).pending = s.pending := rfl
@[simp] theorem State.setCorners_free (x : Vector Corner 6) : (s.setCorners x).free = s.free := rfl
@[simp] theorem State.setCorners_straps (x : Vector Corner 6) : (s.setCorners x).straps = s.straps := rfl
@[simp] theorem State.setCorners_station (x : Vector Corner 6) : (s.setCorners x).station = s.station := rfl
@[simp] theorem State.setCorners_vehicle (x : Vector Corner 6) : (s.setCorners x).vehicle = s.vehicle := rfl
@[simp] theorem State.setCorners_chassis (x : Vector Corner 6) : (s.setCorners x).chassis = s.chassis := rfl
@[simp] theorem State.setCorners_cycle (x : Vector Corner 6) : (s.setCorners x).cycle = s.cycle := rfl
@[simp] theorem State.setCorners_trim (x : Vector Corner 6) : (s.setCorners x).trim = s.trim := rfl
@[simp] theorem State.setCorners_seq (x : Vector Corner 6) : (s.setCorners x).seq = s.seq := rfl
@[simp] theorem State.setCorners_signals (x : Vector Corner 6) : (s.setCorners x).signals = s.signals := rfl
@[simp] theorem State.setCorners_motion (x : Vector Corner 6) : (s.setCorners x).motion = s.motion := rfl
@[simp] theorem State.setCorners_rear (x : Vector Corner 6) : (s.setCorners x).rear = s.rear := rfl
@[simp] theorem State.setCorners_joint (x : Vector Corner 6) : (s.setCorners x).joint = s.joint := rfl
@[simp] theorem State.setCorners_air (x : Vector Corner 6) : (s.setCorners x).air = s.air := rfl
@[simp] theorem State.setCorners_corners (x : Vector Corner 6) : (s.setCorners x).corners = x := rfl
@[simp] theorem State.setCorners_loads (x : Vector Corner 6) : (s.setCorners x).loads = s.loads := rfl
@[simp] theorem State.setCorners_kneel (x : Vector Corner 6) : (s.setCorners x).kneel = s.kneel := rfl
@[simp] theorem State.setCorners_holdSet (x : Vector Corner 6) : (s.setCorners x).holdSet = s.holdSet := rfl
@[simp] theorem State.setCorners_hold (x : Vector Corner 6) : (s.setCorners x).hold = s.hold := rfl
@[simp] theorem State.setCorners_drive (x : Vector Corner 6) : (s.setCorners x).drive = s.drive := rfl
@[simp] theorem State.setCorners_axle (x : Vector Corner 6) : (s.setCorners x).axle = s.axle := rfl
@[simp] theorem State.setCorners_doors (x : Vector Corner 6) : (s.setCorners x).doors = s.doors := rfl
@[simp] theorem State.setCorners_edges (x : Vector Corner 6) : (s.setCorners x).edges = s.edges := rfl
@[simp] theorem State.setCorners_faults (x : Vector Corner 6) : (s.setCorners x).faults = s.faults := rfl
@[simp] theorem State.setCorners_tables (x : Vector Corner 6) : (s.setCorners x).tables = s.tables := rfl
@[simp] theorem State.setCorners_loading (x : Vector Corner 6) : (s.setCorners x).loading = s.loading := rfl
@[simp] theorem State.setCorners_cursor (x : Vector Corner 6) : (s.setCorners x).cursor = s.cursor := rfl
@[simp] theorem State.setCorners_part (x : Vector Corner 6) : (s.setCorners x).part = s.part := rfl
@[simp] theorem State.setCorners_resetPending (x : Vector Corner 6) : (s.setCorners x).resetPending = s.resetPending := rfl
@[simp] theorem State.setCorners_self : s.setCorners s.corners = s := rfl
@[simp] theorem State.setCorners_twice (x y : Vector Corner 6) : (s.setCorners x).setCorners y = s.setCorners y := rfl

/-! ### Updating `loads` -/

@[simp] theorem State.setLoads_pending (x : Vector AxleLoad 3) : (s.setLoads x).pending = s.pending := rfl
@[simp] theorem State.setLoads_free (x : Vector AxleLoad 3) : (s.setLoads x).free = s.free := rfl
@[simp] theorem State.setLoads_straps (x : Vector AxleLoad 3) : (s.setLoads x).straps = s.straps := rfl
@[simp] theorem State.setLoads_station (x : Vector AxleLoad 3) : (s.setLoads x).station = s.station := rfl
@[simp] theorem State.setLoads_vehicle (x : Vector AxleLoad 3) : (s.setLoads x).vehicle = s.vehicle := rfl
@[simp] theorem State.setLoads_chassis (x : Vector AxleLoad 3) : (s.setLoads x).chassis = s.chassis := rfl
@[simp] theorem State.setLoads_cycle (x : Vector AxleLoad 3) : (s.setLoads x).cycle = s.cycle := rfl
@[simp] theorem State.setLoads_trim (x : Vector AxleLoad 3) : (s.setLoads x).trim = s.trim := rfl
@[simp] theorem State.setLoads_seq (x : Vector AxleLoad 3) : (s.setLoads x).seq = s.seq := rfl
@[simp] theorem State.setLoads_signals (x : Vector AxleLoad 3) : (s.setLoads x).signals = s.signals := rfl
@[simp] theorem State.setLoads_motion (x : Vector AxleLoad 3) : (s.setLoads x).motion = s.motion := rfl
@[simp] theorem State.setLoads_rear (x : Vector AxleLoad 3) : (s.setLoads x).rear = s.rear := rfl
@[simp] theorem State.setLoads_joint (x : Vector AxleLoad 3) : (s.setLoads x).joint = s.joint := rfl
@[simp] theorem State.setLoads_air (x : Vector AxleLoad 3) : (s.setLoads x).air = s.air := rfl
@[simp] theorem State.setLoads_corners (x : Vector AxleLoad 3) : (s.setLoads x).corners = s.corners := rfl
@[simp] theorem State.setLoads_loads (x : Vector AxleLoad 3) : (s.setLoads x).loads = x := rfl
@[simp] theorem State.setLoads_kneel (x : Vector AxleLoad 3) : (s.setLoads x).kneel = s.kneel := rfl
@[simp] theorem State.setLoads_holdSet (x : Vector AxleLoad 3) : (s.setLoads x).holdSet = s.holdSet := rfl
@[simp] theorem State.setLoads_hold (x : Vector AxleLoad 3) : (s.setLoads x).hold = s.hold := rfl
@[simp] theorem State.setLoads_drive (x : Vector AxleLoad 3) : (s.setLoads x).drive = s.drive := rfl
@[simp] theorem State.setLoads_axle (x : Vector AxleLoad 3) : (s.setLoads x).axle = s.axle := rfl
@[simp] theorem State.setLoads_doors (x : Vector AxleLoad 3) : (s.setLoads x).doors = s.doors := rfl
@[simp] theorem State.setLoads_edges (x : Vector AxleLoad 3) : (s.setLoads x).edges = s.edges := rfl
@[simp] theorem State.setLoads_faults (x : Vector AxleLoad 3) : (s.setLoads x).faults = s.faults := rfl
@[simp] theorem State.setLoads_tables (x : Vector AxleLoad 3) : (s.setLoads x).tables = s.tables := rfl
@[simp] theorem State.setLoads_loading (x : Vector AxleLoad 3) : (s.setLoads x).loading = s.loading := rfl
@[simp] theorem State.setLoads_cursor (x : Vector AxleLoad 3) : (s.setLoads x).cursor = s.cursor := rfl
@[simp] theorem State.setLoads_part (x : Vector AxleLoad 3) : (s.setLoads x).part = s.part := rfl
@[simp] theorem State.setLoads_resetPending (x : Vector AxleLoad 3) : (s.setLoads x).resetPending = s.resetPending := rfl
@[simp] theorem State.setLoads_self : s.setLoads s.loads = s := rfl
@[simp] theorem State.setLoads_twice (x y : Vector AxleLoad 3) : (s.setLoads x).setLoads y = s.setLoads y := rfl

/-! ### Updating `kneel` -/

@[simp] theorem State.setKneel_pending (x : Kneel) : (s.setKneel x).pending = s.pending := rfl
@[simp] theorem State.setKneel_free (x : Kneel) : (s.setKneel x).free = s.free := rfl
@[simp] theorem State.setKneel_straps (x : Kneel) : (s.setKneel x).straps = s.straps := rfl
@[simp] theorem State.setKneel_station (x : Kneel) : (s.setKneel x).station = s.station := rfl
@[simp] theorem State.setKneel_vehicle (x : Kneel) : (s.setKneel x).vehicle = s.vehicle := rfl
@[simp] theorem State.setKneel_chassis (x : Kneel) : (s.setKneel x).chassis = s.chassis := rfl
@[simp] theorem State.setKneel_cycle (x : Kneel) : (s.setKneel x).cycle = s.cycle := rfl
@[simp] theorem State.setKneel_trim (x : Kneel) : (s.setKneel x).trim = s.trim := rfl
@[simp] theorem State.setKneel_seq (x : Kneel) : (s.setKneel x).seq = s.seq := rfl
@[simp] theorem State.setKneel_signals (x : Kneel) : (s.setKneel x).signals = s.signals := rfl
@[simp] theorem State.setKneel_motion (x : Kneel) : (s.setKneel x).motion = s.motion := rfl
@[simp] theorem State.setKneel_rear (x : Kneel) : (s.setKneel x).rear = s.rear := rfl
@[simp] theorem State.setKneel_joint (x : Kneel) : (s.setKneel x).joint = s.joint := rfl
@[simp] theorem State.setKneel_air (x : Kneel) : (s.setKneel x).air = s.air := rfl
@[simp] theorem State.setKneel_corners (x : Kneel) : (s.setKneel x).corners = s.corners := rfl
@[simp] theorem State.setKneel_loads (x : Kneel) : (s.setKneel x).loads = s.loads := rfl
@[simp] theorem State.setKneel_kneel (x : Kneel) : (s.setKneel x).kneel = x := rfl
@[simp] theorem State.setKneel_holdSet (x : Kneel) : (s.setKneel x).holdSet = s.holdSet := rfl
@[simp] theorem State.setKneel_hold (x : Kneel) : (s.setKneel x).hold = s.hold := rfl
@[simp] theorem State.setKneel_drive (x : Kneel) : (s.setKneel x).drive = s.drive := rfl
@[simp] theorem State.setKneel_axle (x : Kneel) : (s.setKneel x).axle = s.axle := rfl
@[simp] theorem State.setKneel_doors (x : Kneel) : (s.setKneel x).doors = s.doors := rfl
@[simp] theorem State.setKneel_edges (x : Kneel) : (s.setKneel x).edges = s.edges := rfl
@[simp] theorem State.setKneel_faults (x : Kneel) : (s.setKneel x).faults = s.faults := rfl
@[simp] theorem State.setKneel_tables (x : Kneel) : (s.setKneel x).tables = s.tables := rfl
@[simp] theorem State.setKneel_loading (x : Kneel) : (s.setKneel x).loading = s.loading := rfl
@[simp] theorem State.setKneel_cursor (x : Kneel) : (s.setKneel x).cursor = s.cursor := rfl
@[simp] theorem State.setKneel_part (x : Kneel) : (s.setKneel x).part = s.part := rfl
@[simp] theorem State.setKneel_resetPending (x : Kneel) : (s.setKneel x).resetPending = s.resetPending := rfl
@[simp] theorem State.setKneel_self : s.setKneel s.kneel = s := rfl
@[simp] theorem State.setKneel_twice (x y : Kneel) : (s.setKneel x).setKneel y = s.setKneel y := rfl

/-! ### Updating `holdSet` -/

@[simp] theorem State.setHoldSet_pending (x : List Claim) : (s.setHoldSet x).pending = s.pending := rfl
@[simp] theorem State.setHoldSet_free (x : List Claim) : (s.setHoldSet x).free = s.free := rfl
@[simp] theorem State.setHoldSet_straps (x : List Claim) : (s.setHoldSet x).straps = s.straps := rfl
@[simp] theorem State.setHoldSet_station (x : List Claim) : (s.setHoldSet x).station = s.station := rfl
@[simp] theorem State.setHoldSet_vehicle (x : List Claim) : (s.setHoldSet x).vehicle = s.vehicle := rfl
@[simp] theorem State.setHoldSet_chassis (x : List Claim) : (s.setHoldSet x).chassis = s.chassis := rfl
@[simp] theorem State.setHoldSet_cycle (x : List Claim) : (s.setHoldSet x).cycle = s.cycle := rfl
@[simp] theorem State.setHoldSet_trim (x : List Claim) : (s.setHoldSet x).trim = s.trim := rfl
@[simp] theorem State.setHoldSet_seq (x : List Claim) : (s.setHoldSet x).seq = s.seq := rfl
@[simp] theorem State.setHoldSet_signals (x : List Claim) : (s.setHoldSet x).signals = s.signals := rfl
@[simp] theorem State.setHoldSet_motion (x : List Claim) : (s.setHoldSet x).motion = s.motion := rfl
@[simp] theorem State.setHoldSet_rear (x : List Claim) : (s.setHoldSet x).rear = s.rear := rfl
@[simp] theorem State.setHoldSet_joint (x : List Claim) : (s.setHoldSet x).joint = s.joint := rfl
@[simp] theorem State.setHoldSet_air (x : List Claim) : (s.setHoldSet x).air = s.air := rfl
@[simp] theorem State.setHoldSet_corners (x : List Claim) : (s.setHoldSet x).corners = s.corners := rfl
@[simp] theorem State.setHoldSet_loads (x : List Claim) : (s.setHoldSet x).loads = s.loads := rfl
@[simp] theorem State.setHoldSet_kneel (x : List Claim) : (s.setHoldSet x).kneel = s.kneel := rfl
@[simp] theorem State.setHoldSet_holdSet (x : List Claim) : (s.setHoldSet x).holdSet = x := rfl
@[simp] theorem State.setHoldSet_hold (x : List Claim) : (s.setHoldSet x).hold = s.hold := rfl
@[simp] theorem State.setHoldSet_drive (x : List Claim) : (s.setHoldSet x).drive = s.drive := rfl
@[simp] theorem State.setHoldSet_axle (x : List Claim) : (s.setHoldSet x).axle = s.axle := rfl
@[simp] theorem State.setHoldSet_doors (x : List Claim) : (s.setHoldSet x).doors = s.doors := rfl
@[simp] theorem State.setHoldSet_edges (x : List Claim) : (s.setHoldSet x).edges = s.edges := rfl
@[simp] theorem State.setHoldSet_faults (x : List Claim) : (s.setHoldSet x).faults = s.faults := rfl
@[simp] theorem State.setHoldSet_tables (x : List Claim) : (s.setHoldSet x).tables = s.tables := rfl
@[simp] theorem State.setHoldSet_loading (x : List Claim) : (s.setHoldSet x).loading = s.loading := rfl
@[simp] theorem State.setHoldSet_cursor (x : List Claim) : (s.setHoldSet x).cursor = s.cursor := rfl
@[simp] theorem State.setHoldSet_part (x : List Claim) : (s.setHoldSet x).part = s.part := rfl
@[simp] theorem State.setHoldSet_resetPending (x : List Claim) : (s.setHoldSet x).resetPending = s.resetPending := rfl
@[simp] theorem State.setHoldSet_self : s.setHoldSet s.holdSet = s := rfl
@[simp] theorem State.setHoldSet_twice (x y : List Claim) : (s.setHoldSet x).setHoldSet y = s.setHoldSet y := rfl

/-! ### Updating `hold` -/

@[simp] theorem State.setHold_pending (x : Hold) : (s.setHold x).pending = s.pending := rfl
@[simp] theorem State.setHold_free (x : Hold) : (s.setHold x).free = s.free := rfl
@[simp] theorem State.setHold_straps (x : Hold) : (s.setHold x).straps = s.straps := rfl
@[simp] theorem State.setHold_station (x : Hold) : (s.setHold x).station = s.station := rfl
@[simp] theorem State.setHold_vehicle (x : Hold) : (s.setHold x).vehicle = s.vehicle := rfl
@[simp] theorem State.setHold_chassis (x : Hold) : (s.setHold x).chassis = s.chassis := rfl
@[simp] theorem State.setHold_cycle (x : Hold) : (s.setHold x).cycle = s.cycle := rfl
@[simp] theorem State.setHold_trim (x : Hold) : (s.setHold x).trim = s.trim := rfl
@[simp] theorem State.setHold_seq (x : Hold) : (s.setHold x).seq = s.seq := rfl
@[simp] theorem State.setHold_signals (x : Hold) : (s.setHold x).signals = s.signals := rfl
@[simp] theorem State.setHold_motion (x : Hold) : (s.setHold x).motion = s.motion := rfl
@[simp] theorem State.setHold_rear (x : Hold) : (s.setHold x).rear = s.rear := rfl
@[simp] theorem State.setHold_joint (x : Hold) : (s.setHold x).joint = s.joint := rfl
@[simp] theorem State.setHold_air (x : Hold) : (s.setHold x).air = s.air := rfl
@[simp] theorem State.setHold_corners (x : Hold) : (s.setHold x).corners = s.corners := rfl
@[simp] theorem State.setHold_loads (x : Hold) : (s.setHold x).loads = s.loads := rfl
@[simp] theorem State.setHold_kneel (x : Hold) : (s.setHold x).kneel = s.kneel := rfl
@[simp] theorem State.setHold_holdSet (x : Hold) : (s.setHold x).holdSet = s.holdSet := rfl
@[simp] theorem State.setHold_hold (x : Hold) : (s.setHold x).hold = x := rfl
@[simp] theorem State.setHold_drive (x : Hold) : (s.setHold x).drive = s.drive := rfl
@[simp] theorem State.setHold_axle (x : Hold) : (s.setHold x).axle = s.axle := rfl
@[simp] theorem State.setHold_doors (x : Hold) : (s.setHold x).doors = s.doors := rfl
@[simp] theorem State.setHold_edges (x : Hold) : (s.setHold x).edges = s.edges := rfl
@[simp] theorem State.setHold_faults (x : Hold) : (s.setHold x).faults = s.faults := rfl
@[simp] theorem State.setHold_tables (x : Hold) : (s.setHold x).tables = s.tables := rfl
@[simp] theorem State.setHold_loading (x : Hold) : (s.setHold x).loading = s.loading := rfl
@[simp] theorem State.setHold_cursor (x : Hold) : (s.setHold x).cursor = s.cursor := rfl
@[simp] theorem State.setHold_part (x : Hold) : (s.setHold x).part = s.part := rfl
@[simp] theorem State.setHold_resetPending (x : Hold) : (s.setHold x).resetPending = s.resetPending := rfl
@[simp] theorem State.setHold_self : s.setHold s.hold = s := rfl
@[simp] theorem State.setHold_twice (x y : Hold) : (s.setHold x).setHold y = s.setHold y := rfl

/-! ### Updating `drive` -/

@[simp] theorem State.setDrive_pending (x : Drive) : (s.setDrive x).pending = s.pending := rfl
@[simp] theorem State.setDrive_free (x : Drive) : (s.setDrive x).free = s.free := rfl
@[simp] theorem State.setDrive_straps (x : Drive) : (s.setDrive x).straps = s.straps := rfl
@[simp] theorem State.setDrive_station (x : Drive) : (s.setDrive x).station = s.station := rfl
@[simp] theorem State.setDrive_vehicle (x : Drive) : (s.setDrive x).vehicle = s.vehicle := rfl
@[simp] theorem State.setDrive_chassis (x : Drive) : (s.setDrive x).chassis = s.chassis := rfl
@[simp] theorem State.setDrive_cycle (x : Drive) : (s.setDrive x).cycle = s.cycle := rfl
@[simp] theorem State.setDrive_trim (x : Drive) : (s.setDrive x).trim = s.trim := rfl
@[simp] theorem State.setDrive_seq (x : Drive) : (s.setDrive x).seq = s.seq := rfl
@[simp] theorem State.setDrive_signals (x : Drive) : (s.setDrive x).signals = s.signals := rfl
@[simp] theorem State.setDrive_motion (x : Drive) : (s.setDrive x).motion = s.motion := rfl
@[simp] theorem State.setDrive_rear (x : Drive) : (s.setDrive x).rear = s.rear := rfl
@[simp] theorem State.setDrive_joint (x : Drive) : (s.setDrive x).joint = s.joint := rfl
@[simp] theorem State.setDrive_air (x : Drive) : (s.setDrive x).air = s.air := rfl
@[simp] theorem State.setDrive_corners (x : Drive) : (s.setDrive x).corners = s.corners := rfl
@[simp] theorem State.setDrive_loads (x : Drive) : (s.setDrive x).loads = s.loads := rfl
@[simp] theorem State.setDrive_kneel (x : Drive) : (s.setDrive x).kneel = s.kneel := rfl
@[simp] theorem State.setDrive_holdSet (x : Drive) : (s.setDrive x).holdSet = s.holdSet := rfl
@[simp] theorem State.setDrive_hold (x : Drive) : (s.setDrive x).hold = s.hold := rfl
@[simp] theorem State.setDrive_drive (x : Drive) : (s.setDrive x).drive = x := rfl
@[simp] theorem State.setDrive_axle (x : Drive) : (s.setDrive x).axle = s.axle := rfl
@[simp] theorem State.setDrive_doors (x : Drive) : (s.setDrive x).doors = s.doors := rfl
@[simp] theorem State.setDrive_edges (x : Drive) : (s.setDrive x).edges = s.edges := rfl
@[simp] theorem State.setDrive_faults (x : Drive) : (s.setDrive x).faults = s.faults := rfl
@[simp] theorem State.setDrive_tables (x : Drive) : (s.setDrive x).tables = s.tables := rfl
@[simp] theorem State.setDrive_loading (x : Drive) : (s.setDrive x).loading = s.loading := rfl
@[simp] theorem State.setDrive_cursor (x : Drive) : (s.setDrive x).cursor = s.cursor := rfl
@[simp] theorem State.setDrive_part (x : Drive) : (s.setDrive x).part = s.part := rfl
@[simp] theorem State.setDrive_resetPending (x : Drive) : (s.setDrive x).resetPending = s.resetPending := rfl
@[simp] theorem State.setDrive_self : s.setDrive s.drive = s := rfl
@[simp] theorem State.setDrive_twice (x y : Drive) : (s.setDrive x).setDrive y = s.setDrive y := rfl

/-! ### Updating `axle` -/

@[simp] theorem State.setAxle_pending (x : AxlePressure) : (s.setAxle x).pending = s.pending := rfl
@[simp] theorem State.setAxle_free (x : AxlePressure) : (s.setAxle x).free = s.free := rfl
@[simp] theorem State.setAxle_straps (x : AxlePressure) : (s.setAxle x).straps = s.straps := rfl
@[simp] theorem State.setAxle_station (x : AxlePressure) : (s.setAxle x).station = s.station := rfl
@[simp] theorem State.setAxle_vehicle (x : AxlePressure) : (s.setAxle x).vehicle = s.vehicle := rfl
@[simp] theorem State.setAxle_chassis (x : AxlePressure) : (s.setAxle x).chassis = s.chassis := rfl
@[simp] theorem State.setAxle_cycle (x : AxlePressure) : (s.setAxle x).cycle = s.cycle := rfl
@[simp] theorem State.setAxle_trim (x : AxlePressure) : (s.setAxle x).trim = s.trim := rfl
@[simp] theorem State.setAxle_seq (x : AxlePressure) : (s.setAxle x).seq = s.seq := rfl
@[simp] theorem State.setAxle_signals (x : AxlePressure) : (s.setAxle x).signals = s.signals := rfl
@[simp] theorem State.setAxle_motion (x : AxlePressure) : (s.setAxle x).motion = s.motion := rfl
@[simp] theorem State.setAxle_rear (x : AxlePressure) : (s.setAxle x).rear = s.rear := rfl
@[simp] theorem State.setAxle_joint (x : AxlePressure) : (s.setAxle x).joint = s.joint := rfl
@[simp] theorem State.setAxle_air (x : AxlePressure) : (s.setAxle x).air = s.air := rfl
@[simp] theorem State.setAxle_corners (x : AxlePressure) : (s.setAxle x).corners = s.corners := rfl
@[simp] theorem State.setAxle_loads (x : AxlePressure) : (s.setAxle x).loads = s.loads := rfl
@[simp] theorem State.setAxle_kneel (x : AxlePressure) : (s.setAxle x).kneel = s.kneel := rfl
@[simp] theorem State.setAxle_holdSet (x : AxlePressure) : (s.setAxle x).holdSet = s.holdSet := rfl
@[simp] theorem State.setAxle_hold (x : AxlePressure) : (s.setAxle x).hold = s.hold := rfl
@[simp] theorem State.setAxle_drive (x : AxlePressure) : (s.setAxle x).drive = s.drive := rfl
@[simp] theorem State.setAxle_axle (x : AxlePressure) : (s.setAxle x).axle = x := rfl
@[simp] theorem State.setAxle_doors (x : AxlePressure) : (s.setAxle x).doors = s.doors := rfl
@[simp] theorem State.setAxle_edges (x : AxlePressure) : (s.setAxle x).edges = s.edges := rfl
@[simp] theorem State.setAxle_faults (x : AxlePressure) : (s.setAxle x).faults = s.faults := rfl
@[simp] theorem State.setAxle_tables (x : AxlePressure) : (s.setAxle x).tables = s.tables := rfl
@[simp] theorem State.setAxle_loading (x : AxlePressure) : (s.setAxle x).loading = s.loading := rfl
@[simp] theorem State.setAxle_cursor (x : AxlePressure) : (s.setAxle x).cursor = s.cursor := rfl
@[simp] theorem State.setAxle_part (x : AxlePressure) : (s.setAxle x).part = s.part := rfl
@[simp] theorem State.setAxle_resetPending (x : AxlePressure) : (s.setAxle x).resetPending = s.resetPending := rfl
@[simp] theorem State.setAxle_self : s.setAxle s.axle = s := rfl
@[simp] theorem State.setAxle_twice (x y : AxlePressure) : (s.setAxle x).setAxle y = s.setAxle y := rfl

/-! ### Updating `doors` -/

@[simp] theorem State.setDoors_pending (x : Vector Door 4) : (s.setDoors x).pending = s.pending := rfl
@[simp] theorem State.setDoors_free (x : Vector Door 4) : (s.setDoors x).free = s.free := rfl
@[simp] theorem State.setDoors_straps (x : Vector Door 4) : (s.setDoors x).straps = s.straps := rfl
@[simp] theorem State.setDoors_station (x : Vector Door 4) : (s.setDoors x).station = s.station := rfl
@[simp] theorem State.setDoors_vehicle (x : Vector Door 4) : (s.setDoors x).vehicle = s.vehicle := rfl
@[simp] theorem State.setDoors_chassis (x : Vector Door 4) : (s.setDoors x).chassis = s.chassis := rfl
@[simp] theorem State.setDoors_cycle (x : Vector Door 4) : (s.setDoors x).cycle = s.cycle := rfl
@[simp] theorem State.setDoors_trim (x : Vector Door 4) : (s.setDoors x).trim = s.trim := rfl
@[simp] theorem State.setDoors_seq (x : Vector Door 4) : (s.setDoors x).seq = s.seq := rfl
@[simp] theorem State.setDoors_signals (x : Vector Door 4) : (s.setDoors x).signals = s.signals := rfl
@[simp] theorem State.setDoors_motion (x : Vector Door 4) : (s.setDoors x).motion = s.motion := rfl
@[simp] theorem State.setDoors_rear (x : Vector Door 4) : (s.setDoors x).rear = s.rear := rfl
@[simp] theorem State.setDoors_joint (x : Vector Door 4) : (s.setDoors x).joint = s.joint := rfl
@[simp] theorem State.setDoors_air (x : Vector Door 4) : (s.setDoors x).air = s.air := rfl
@[simp] theorem State.setDoors_corners (x : Vector Door 4) : (s.setDoors x).corners = s.corners := rfl
@[simp] theorem State.setDoors_loads (x : Vector Door 4) : (s.setDoors x).loads = s.loads := rfl
@[simp] theorem State.setDoors_kneel (x : Vector Door 4) : (s.setDoors x).kneel = s.kneel := rfl
@[simp] theorem State.setDoors_holdSet (x : Vector Door 4) : (s.setDoors x).holdSet = s.holdSet := rfl
@[simp] theorem State.setDoors_hold (x : Vector Door 4) : (s.setDoors x).hold = s.hold := rfl
@[simp] theorem State.setDoors_drive (x : Vector Door 4) : (s.setDoors x).drive = s.drive := rfl
@[simp] theorem State.setDoors_axle (x : Vector Door 4) : (s.setDoors x).axle = s.axle := rfl
@[simp] theorem State.setDoors_doors (x : Vector Door 4) : (s.setDoors x).doors = x := rfl
@[simp] theorem State.setDoors_edges (x : Vector Door 4) : (s.setDoors x).edges = s.edges := rfl
@[simp] theorem State.setDoors_faults (x : Vector Door 4) : (s.setDoors x).faults = s.faults := rfl
@[simp] theorem State.setDoors_tables (x : Vector Door 4) : (s.setDoors x).tables = s.tables := rfl
@[simp] theorem State.setDoors_loading (x : Vector Door 4) : (s.setDoors x).loading = s.loading := rfl
@[simp] theorem State.setDoors_cursor (x : Vector Door 4) : (s.setDoors x).cursor = s.cursor := rfl
@[simp] theorem State.setDoors_part (x : Vector Door 4) : (s.setDoors x).part = s.part := rfl
@[simp] theorem State.setDoors_resetPending (x : Vector Door 4) : (s.setDoors x).resetPending = s.resetPending := rfl
@[simp] theorem State.setDoors_self : s.setDoors s.doors = s := rfl
@[simp] theorem State.setDoors_twice (x y : Vector Door 4) : (s.setDoors x).setDoors y = s.setDoors y := rfl

/-! ### Updating `edges` -/

@[simp] theorem State.setEdges_pending (x : Vector EdgeLine 4) : (s.setEdges x).pending = s.pending := rfl
@[simp] theorem State.setEdges_free (x : Vector EdgeLine 4) : (s.setEdges x).free = s.free := rfl
@[simp] theorem State.setEdges_straps (x : Vector EdgeLine 4) : (s.setEdges x).straps = s.straps := rfl
@[simp] theorem State.setEdges_station (x : Vector EdgeLine 4) : (s.setEdges x).station = s.station := rfl
@[simp] theorem State.setEdges_vehicle (x : Vector EdgeLine 4) : (s.setEdges x).vehicle = s.vehicle := rfl
@[simp] theorem State.setEdges_chassis (x : Vector EdgeLine 4) : (s.setEdges x).chassis = s.chassis := rfl
@[simp] theorem State.setEdges_cycle (x : Vector EdgeLine 4) : (s.setEdges x).cycle = s.cycle := rfl
@[simp] theorem State.setEdges_trim (x : Vector EdgeLine 4) : (s.setEdges x).trim = s.trim := rfl
@[simp] theorem State.setEdges_seq (x : Vector EdgeLine 4) : (s.setEdges x).seq = s.seq := rfl
@[simp] theorem State.setEdges_signals (x : Vector EdgeLine 4) : (s.setEdges x).signals = s.signals := rfl
@[simp] theorem State.setEdges_motion (x : Vector EdgeLine 4) : (s.setEdges x).motion = s.motion := rfl
@[simp] theorem State.setEdges_rear (x : Vector EdgeLine 4) : (s.setEdges x).rear = s.rear := rfl
@[simp] theorem State.setEdges_joint (x : Vector EdgeLine 4) : (s.setEdges x).joint = s.joint := rfl
@[simp] theorem State.setEdges_air (x : Vector EdgeLine 4) : (s.setEdges x).air = s.air := rfl
@[simp] theorem State.setEdges_corners (x : Vector EdgeLine 4) : (s.setEdges x).corners = s.corners := rfl
@[simp] theorem State.setEdges_loads (x : Vector EdgeLine 4) : (s.setEdges x).loads = s.loads := rfl
@[simp] theorem State.setEdges_kneel (x : Vector EdgeLine 4) : (s.setEdges x).kneel = s.kneel := rfl
@[simp] theorem State.setEdges_holdSet (x : Vector EdgeLine 4) : (s.setEdges x).holdSet = s.holdSet := rfl
@[simp] theorem State.setEdges_hold (x : Vector EdgeLine 4) : (s.setEdges x).hold = s.hold := rfl
@[simp] theorem State.setEdges_drive (x : Vector EdgeLine 4) : (s.setEdges x).drive = s.drive := rfl
@[simp] theorem State.setEdges_axle (x : Vector EdgeLine 4) : (s.setEdges x).axle = s.axle := rfl
@[simp] theorem State.setEdges_doors (x : Vector EdgeLine 4) : (s.setEdges x).doors = s.doors := rfl
@[simp] theorem State.setEdges_edges (x : Vector EdgeLine 4) : (s.setEdges x).edges = x := rfl
@[simp] theorem State.setEdges_faults (x : Vector EdgeLine 4) : (s.setEdges x).faults = s.faults := rfl
@[simp] theorem State.setEdges_tables (x : Vector EdgeLine 4) : (s.setEdges x).tables = s.tables := rfl
@[simp] theorem State.setEdges_loading (x : Vector EdgeLine 4) : (s.setEdges x).loading = s.loading := rfl
@[simp] theorem State.setEdges_cursor (x : Vector EdgeLine 4) : (s.setEdges x).cursor = s.cursor := rfl
@[simp] theorem State.setEdges_part (x : Vector EdgeLine 4) : (s.setEdges x).part = s.part := rfl
@[simp] theorem State.setEdges_resetPending (x : Vector EdgeLine 4) : (s.setEdges x).resetPending = s.resetPending := rfl
@[simp] theorem State.setEdges_self : s.setEdges s.edges = s := rfl
@[simp] theorem State.setEdges_twice (x y : Vector EdgeLine 4) : (s.setEdges x).setEdges y = s.setEdges y := rfl

/-! ### Updating `faults` -/

@[simp] theorem State.setFaults_pending (x : FaultUnit) : (s.setFaults x).pending = s.pending := rfl
@[simp] theorem State.setFaults_free (x : FaultUnit) : (s.setFaults x).free = s.free := rfl
@[simp] theorem State.setFaults_straps (x : FaultUnit) : (s.setFaults x).straps = s.straps := rfl
@[simp] theorem State.setFaults_station (x : FaultUnit) : (s.setFaults x).station = s.station := rfl
@[simp] theorem State.setFaults_vehicle (x : FaultUnit) : (s.setFaults x).vehicle = s.vehicle := rfl
@[simp] theorem State.setFaults_chassis (x : FaultUnit) : (s.setFaults x).chassis = s.chassis := rfl
@[simp] theorem State.setFaults_cycle (x : FaultUnit) : (s.setFaults x).cycle = s.cycle := rfl
@[simp] theorem State.setFaults_trim (x : FaultUnit) : (s.setFaults x).trim = s.trim := rfl
@[simp] theorem State.setFaults_seq (x : FaultUnit) : (s.setFaults x).seq = s.seq := rfl
@[simp] theorem State.setFaults_signals (x : FaultUnit) : (s.setFaults x).signals = s.signals := rfl
@[simp] theorem State.setFaults_motion (x : FaultUnit) : (s.setFaults x).motion = s.motion := rfl
@[simp] theorem State.setFaults_rear (x : FaultUnit) : (s.setFaults x).rear = s.rear := rfl
@[simp] theorem State.setFaults_joint (x : FaultUnit) : (s.setFaults x).joint = s.joint := rfl
@[simp] theorem State.setFaults_air (x : FaultUnit) : (s.setFaults x).air = s.air := rfl
@[simp] theorem State.setFaults_corners (x : FaultUnit) : (s.setFaults x).corners = s.corners := rfl
@[simp] theorem State.setFaults_loads (x : FaultUnit) : (s.setFaults x).loads = s.loads := rfl
@[simp] theorem State.setFaults_kneel (x : FaultUnit) : (s.setFaults x).kneel = s.kneel := rfl
@[simp] theorem State.setFaults_holdSet (x : FaultUnit) : (s.setFaults x).holdSet = s.holdSet := rfl
@[simp] theorem State.setFaults_hold (x : FaultUnit) : (s.setFaults x).hold = s.hold := rfl
@[simp] theorem State.setFaults_drive (x : FaultUnit) : (s.setFaults x).drive = s.drive := rfl
@[simp] theorem State.setFaults_axle (x : FaultUnit) : (s.setFaults x).axle = s.axle := rfl
@[simp] theorem State.setFaults_doors (x : FaultUnit) : (s.setFaults x).doors = s.doors := rfl
@[simp] theorem State.setFaults_edges (x : FaultUnit) : (s.setFaults x).edges = s.edges := rfl
@[simp] theorem State.setFaults_faults (x : FaultUnit) : (s.setFaults x).faults = x := rfl
@[simp] theorem State.setFaults_tables (x : FaultUnit) : (s.setFaults x).tables = s.tables := rfl
@[simp] theorem State.setFaults_loading (x : FaultUnit) : (s.setFaults x).loading = s.loading := rfl
@[simp] theorem State.setFaults_cursor (x : FaultUnit) : (s.setFaults x).cursor = s.cursor := rfl
@[simp] theorem State.setFaults_part (x : FaultUnit) : (s.setFaults x).part = s.part := rfl
@[simp] theorem State.setFaults_resetPending (x : FaultUnit) : (s.setFaults x).resetPending = s.resetPending := rfl
@[simp] theorem State.setFaults_self : s.setFaults s.faults = s := rfl
@[simp] theorem State.setFaults_twice (x y : FaultUnit) : (s.setFaults x).setFaults y = s.setFaults y := rfl

/-! ### Updating `tables` -/

@[simp] theorem State.setTables_pending (x : Vector Table 9) : (s.setTables x).pending = s.pending := rfl
@[simp] theorem State.setTables_free (x : Vector Table 9) : (s.setTables x).free = s.free := rfl
@[simp] theorem State.setTables_straps (x : Vector Table 9) : (s.setTables x).straps = s.straps := rfl
@[simp] theorem State.setTables_station (x : Vector Table 9) : (s.setTables x).station = s.station := rfl
@[simp] theorem State.setTables_vehicle (x : Vector Table 9) : (s.setTables x).vehicle = s.vehicle := rfl
@[simp] theorem State.setTables_chassis (x : Vector Table 9) : (s.setTables x).chassis = s.chassis := rfl
@[simp] theorem State.setTables_cycle (x : Vector Table 9) : (s.setTables x).cycle = s.cycle := rfl
@[simp] theorem State.setTables_trim (x : Vector Table 9) : (s.setTables x).trim = s.trim := rfl
@[simp] theorem State.setTables_seq (x : Vector Table 9) : (s.setTables x).seq = s.seq := rfl
@[simp] theorem State.setTables_signals (x : Vector Table 9) : (s.setTables x).signals = s.signals := rfl
@[simp] theorem State.setTables_motion (x : Vector Table 9) : (s.setTables x).motion = s.motion := rfl
@[simp] theorem State.setTables_rear (x : Vector Table 9) : (s.setTables x).rear = s.rear := rfl
@[simp] theorem State.setTables_joint (x : Vector Table 9) : (s.setTables x).joint = s.joint := rfl
@[simp] theorem State.setTables_air (x : Vector Table 9) : (s.setTables x).air = s.air := rfl
@[simp] theorem State.setTables_corners (x : Vector Table 9) : (s.setTables x).corners = s.corners := rfl
@[simp] theorem State.setTables_loads (x : Vector Table 9) : (s.setTables x).loads = s.loads := rfl
@[simp] theorem State.setTables_kneel (x : Vector Table 9) : (s.setTables x).kneel = s.kneel := rfl
@[simp] theorem State.setTables_holdSet (x : Vector Table 9) : (s.setTables x).holdSet = s.holdSet := rfl
@[simp] theorem State.setTables_hold (x : Vector Table 9) : (s.setTables x).hold = s.hold := rfl
@[simp] theorem State.setTables_drive (x : Vector Table 9) : (s.setTables x).drive = s.drive := rfl
@[simp] theorem State.setTables_axle (x : Vector Table 9) : (s.setTables x).axle = s.axle := rfl
@[simp] theorem State.setTables_doors (x : Vector Table 9) : (s.setTables x).doors = s.doors := rfl
@[simp] theorem State.setTables_edges (x : Vector Table 9) : (s.setTables x).edges = s.edges := rfl
@[simp] theorem State.setTables_faults (x : Vector Table 9) : (s.setTables x).faults = s.faults := rfl
@[simp] theorem State.setTables_tables (x : Vector Table 9) : (s.setTables x).tables = x := rfl
@[simp] theorem State.setTables_loading (x : Vector Table 9) : (s.setTables x).loading = s.loading := rfl
@[simp] theorem State.setTables_cursor (x : Vector Table 9) : (s.setTables x).cursor = s.cursor := rfl
@[simp] theorem State.setTables_part (x : Vector Table 9) : (s.setTables x).part = s.part := rfl
@[simp] theorem State.setTables_resetPending (x : Vector Table 9) : (s.setTables x).resetPending = s.resetPending := rfl
@[simp] theorem State.setTables_self : s.setTables s.tables = s := rfl
@[simp] theorem State.setTables_twice (x y : Vector Table 9) : (s.setTables x).setTables y = s.setTables y := rfl

/-! ### Updating `loading` -/

@[simp] theorem State.setLoading_pending (x : Option Loading) : (s.setLoading x).pending = s.pending := rfl
@[simp] theorem State.setLoading_free (x : Option Loading) : (s.setLoading x).free = s.free := rfl
@[simp] theorem State.setLoading_straps (x : Option Loading) : (s.setLoading x).straps = s.straps := rfl
@[simp] theorem State.setLoading_station (x : Option Loading) : (s.setLoading x).station = s.station := rfl
@[simp] theorem State.setLoading_vehicle (x : Option Loading) : (s.setLoading x).vehicle = s.vehicle := rfl
@[simp] theorem State.setLoading_chassis (x : Option Loading) : (s.setLoading x).chassis = s.chassis := rfl
@[simp] theorem State.setLoading_cycle (x : Option Loading) : (s.setLoading x).cycle = s.cycle := rfl
@[simp] theorem State.setLoading_trim (x : Option Loading) : (s.setLoading x).trim = s.trim := rfl
@[simp] theorem State.setLoading_seq (x : Option Loading) : (s.setLoading x).seq = s.seq := rfl
@[simp] theorem State.setLoading_signals (x : Option Loading) : (s.setLoading x).signals = s.signals := rfl
@[simp] theorem State.setLoading_motion (x : Option Loading) : (s.setLoading x).motion = s.motion := rfl
@[simp] theorem State.setLoading_rear (x : Option Loading) : (s.setLoading x).rear = s.rear := rfl
@[simp] theorem State.setLoading_joint (x : Option Loading) : (s.setLoading x).joint = s.joint := rfl
@[simp] theorem State.setLoading_air (x : Option Loading) : (s.setLoading x).air = s.air := rfl
@[simp] theorem State.setLoading_corners (x : Option Loading) : (s.setLoading x).corners = s.corners := rfl
@[simp] theorem State.setLoading_loads (x : Option Loading) : (s.setLoading x).loads = s.loads := rfl
@[simp] theorem State.setLoading_kneel (x : Option Loading) : (s.setLoading x).kneel = s.kneel := rfl
@[simp] theorem State.setLoading_holdSet (x : Option Loading) : (s.setLoading x).holdSet = s.holdSet := rfl
@[simp] theorem State.setLoading_hold (x : Option Loading) : (s.setLoading x).hold = s.hold := rfl
@[simp] theorem State.setLoading_drive (x : Option Loading) : (s.setLoading x).drive = s.drive := rfl
@[simp] theorem State.setLoading_axle (x : Option Loading) : (s.setLoading x).axle = s.axle := rfl
@[simp] theorem State.setLoading_doors (x : Option Loading) : (s.setLoading x).doors = s.doors := rfl
@[simp] theorem State.setLoading_edges (x : Option Loading) : (s.setLoading x).edges = s.edges := rfl
@[simp] theorem State.setLoading_faults (x : Option Loading) : (s.setLoading x).faults = s.faults := rfl
@[simp] theorem State.setLoading_tables (x : Option Loading) : (s.setLoading x).tables = s.tables := rfl
@[simp] theorem State.setLoading_loading (x : Option Loading) : (s.setLoading x).loading = x := rfl
@[simp] theorem State.setLoading_cursor (x : Option Loading) : (s.setLoading x).cursor = s.cursor := rfl
@[simp] theorem State.setLoading_part (x : Option Loading) : (s.setLoading x).part = s.part := rfl
@[simp] theorem State.setLoading_resetPending (x : Option Loading) : (s.setLoading x).resetPending = s.resetPending := rfl
@[simp] theorem State.setLoading_self : s.setLoading s.loading = s := rfl
@[simp] theorem State.setLoading_twice (x y : Option Loading) : (s.setLoading x).setLoading y = s.setLoading y := rfl

/-! ### Updating `cursor` -/

@[simp] theorem State.setCursor_pending (x : Option (Fin 9 × Bank)) : (s.setCursor x).pending = s.pending := rfl
@[simp] theorem State.setCursor_free (x : Option (Fin 9 × Bank)) : (s.setCursor x).free = s.free := rfl
@[simp] theorem State.setCursor_straps (x : Option (Fin 9 × Bank)) : (s.setCursor x).straps = s.straps := rfl
@[simp] theorem State.setCursor_station (x : Option (Fin 9 × Bank)) : (s.setCursor x).station = s.station := rfl
@[simp] theorem State.setCursor_vehicle (x : Option (Fin 9 × Bank)) : (s.setCursor x).vehicle = s.vehicle := rfl
@[simp] theorem State.setCursor_chassis (x : Option (Fin 9 × Bank)) : (s.setCursor x).chassis = s.chassis := rfl
@[simp] theorem State.setCursor_cycle (x : Option (Fin 9 × Bank)) : (s.setCursor x).cycle = s.cycle := rfl
@[simp] theorem State.setCursor_trim (x : Option (Fin 9 × Bank)) : (s.setCursor x).trim = s.trim := rfl
@[simp] theorem State.setCursor_seq (x : Option (Fin 9 × Bank)) : (s.setCursor x).seq = s.seq := rfl
@[simp] theorem State.setCursor_signals (x : Option (Fin 9 × Bank)) : (s.setCursor x).signals = s.signals := rfl
@[simp] theorem State.setCursor_motion (x : Option (Fin 9 × Bank)) : (s.setCursor x).motion = s.motion := rfl
@[simp] theorem State.setCursor_rear (x : Option (Fin 9 × Bank)) : (s.setCursor x).rear = s.rear := rfl
@[simp] theorem State.setCursor_joint (x : Option (Fin 9 × Bank)) : (s.setCursor x).joint = s.joint := rfl
@[simp] theorem State.setCursor_air (x : Option (Fin 9 × Bank)) : (s.setCursor x).air = s.air := rfl
@[simp] theorem State.setCursor_corners (x : Option (Fin 9 × Bank)) : (s.setCursor x).corners = s.corners := rfl
@[simp] theorem State.setCursor_loads (x : Option (Fin 9 × Bank)) : (s.setCursor x).loads = s.loads := rfl
@[simp] theorem State.setCursor_kneel (x : Option (Fin 9 × Bank)) : (s.setCursor x).kneel = s.kneel := rfl
@[simp] theorem State.setCursor_holdSet (x : Option (Fin 9 × Bank)) : (s.setCursor x).holdSet = s.holdSet := rfl
@[simp] theorem State.setCursor_hold (x : Option (Fin 9 × Bank)) : (s.setCursor x).hold = s.hold := rfl
@[simp] theorem State.setCursor_drive (x : Option (Fin 9 × Bank)) : (s.setCursor x).drive = s.drive := rfl
@[simp] theorem State.setCursor_axle (x : Option (Fin 9 × Bank)) : (s.setCursor x).axle = s.axle := rfl
@[simp] theorem State.setCursor_doors (x : Option (Fin 9 × Bank)) : (s.setCursor x).doors = s.doors := rfl
@[simp] theorem State.setCursor_edges (x : Option (Fin 9 × Bank)) : (s.setCursor x).edges = s.edges := rfl
@[simp] theorem State.setCursor_faults (x : Option (Fin 9 × Bank)) : (s.setCursor x).faults = s.faults := rfl
@[simp] theorem State.setCursor_tables (x : Option (Fin 9 × Bank)) : (s.setCursor x).tables = s.tables := rfl
@[simp] theorem State.setCursor_loading (x : Option (Fin 9 × Bank)) : (s.setCursor x).loading = s.loading := rfl
@[simp] theorem State.setCursor_cursor (x : Option (Fin 9 × Bank)) : (s.setCursor x).cursor = x := rfl
@[simp] theorem State.setCursor_part (x : Option (Fin 9 × Bank)) : (s.setCursor x).part = s.part := rfl
@[simp] theorem State.setCursor_resetPending (x : Option (Fin 9 × Bank)) : (s.setCursor x).resetPending = s.resetPending := rfl
@[simp] theorem State.setCursor_self : s.setCursor s.cursor = s := rfl
@[simp] theorem State.setCursor_twice (x y : Option (Fin 9 × Bank)) : (s.setCursor x).setCursor y = s.setCursor y := rfl

/-! ### Updating `part` -/

@[simp] theorem State.setPart_pending (x : PartState) : (s.setPart x).pending = s.pending := rfl
@[simp] theorem State.setPart_free (x : PartState) : (s.setPart x).free = s.free := rfl
@[simp] theorem State.setPart_straps (x : PartState) : (s.setPart x).straps = s.straps := rfl
@[simp] theorem State.setPart_station (x : PartState) : (s.setPart x).station = s.station := rfl
@[simp] theorem State.setPart_vehicle (x : PartState) : (s.setPart x).vehicle = s.vehicle := rfl
@[simp] theorem State.setPart_chassis (x : PartState) : (s.setPart x).chassis = s.chassis := rfl
@[simp] theorem State.setPart_cycle (x : PartState) : (s.setPart x).cycle = s.cycle := rfl
@[simp] theorem State.setPart_trim (x : PartState) : (s.setPart x).trim = s.trim := rfl
@[simp] theorem State.setPart_seq (x : PartState) : (s.setPart x).seq = s.seq := rfl
@[simp] theorem State.setPart_signals (x : PartState) : (s.setPart x).signals = s.signals := rfl
@[simp] theorem State.setPart_motion (x : PartState) : (s.setPart x).motion = s.motion := rfl
@[simp] theorem State.setPart_rear (x : PartState) : (s.setPart x).rear = s.rear := rfl
@[simp] theorem State.setPart_joint (x : PartState) : (s.setPart x).joint = s.joint := rfl
@[simp] theorem State.setPart_air (x : PartState) : (s.setPart x).air = s.air := rfl
@[simp] theorem State.setPart_corners (x : PartState) : (s.setPart x).corners = s.corners := rfl
@[simp] theorem State.setPart_loads (x : PartState) : (s.setPart x).loads = s.loads := rfl
@[simp] theorem State.setPart_kneel (x : PartState) : (s.setPart x).kneel = s.kneel := rfl
@[simp] theorem State.setPart_holdSet (x : PartState) : (s.setPart x).holdSet = s.holdSet := rfl
@[simp] theorem State.setPart_hold (x : PartState) : (s.setPart x).hold = s.hold := rfl
@[simp] theorem State.setPart_drive (x : PartState) : (s.setPart x).drive = s.drive := rfl
@[simp] theorem State.setPart_axle (x : PartState) : (s.setPart x).axle = s.axle := rfl
@[simp] theorem State.setPart_doors (x : PartState) : (s.setPart x).doors = s.doors := rfl
@[simp] theorem State.setPart_edges (x : PartState) : (s.setPart x).edges = s.edges := rfl
@[simp] theorem State.setPart_faults (x : PartState) : (s.setPart x).faults = s.faults := rfl
@[simp] theorem State.setPart_tables (x : PartState) : (s.setPart x).tables = s.tables := rfl
@[simp] theorem State.setPart_loading (x : PartState) : (s.setPart x).loading = s.loading := rfl
@[simp] theorem State.setPart_cursor (x : PartState) : (s.setPart x).cursor = s.cursor := rfl
@[simp] theorem State.setPart_part (x : PartState) : (s.setPart x).part = x := rfl
@[simp] theorem State.setPart_resetPending (x : PartState) : (s.setPart x).resetPending = s.resetPending := rfl
@[simp] theorem State.setPart_self : s.setPart s.part = s := rfl
@[simp] theorem State.setPart_twice (x y : PartState) : (s.setPart x).setPart y = s.setPart y := rfl

/-! ### Updating `resetPending` -/

@[simp] theorem State.setResetPending_pending (x : Option ResetKind) : (s.setResetPending x).pending = s.pending := rfl
@[simp] theorem State.setResetPending_free (x : Option ResetKind) : (s.setResetPending x).free = s.free := rfl
@[simp] theorem State.setResetPending_straps (x : Option ResetKind) : (s.setResetPending x).straps = s.straps := rfl
@[simp] theorem State.setResetPending_station (x : Option ResetKind) : (s.setResetPending x).station = s.station := rfl
@[simp] theorem State.setResetPending_vehicle (x : Option ResetKind) : (s.setResetPending x).vehicle = s.vehicle := rfl
@[simp] theorem State.setResetPending_chassis (x : Option ResetKind) : (s.setResetPending x).chassis = s.chassis := rfl
@[simp] theorem State.setResetPending_cycle (x : Option ResetKind) : (s.setResetPending x).cycle = s.cycle := rfl
@[simp] theorem State.setResetPending_trim (x : Option ResetKind) : (s.setResetPending x).trim = s.trim := rfl
@[simp] theorem State.setResetPending_seq (x : Option ResetKind) : (s.setResetPending x).seq = s.seq := rfl
@[simp] theorem State.setResetPending_signals (x : Option ResetKind) : (s.setResetPending x).signals = s.signals := rfl
@[simp] theorem State.setResetPending_motion (x : Option ResetKind) : (s.setResetPending x).motion = s.motion := rfl
@[simp] theorem State.setResetPending_rear (x : Option ResetKind) : (s.setResetPending x).rear = s.rear := rfl
@[simp] theorem State.setResetPending_joint (x : Option ResetKind) : (s.setResetPending x).joint = s.joint := rfl
@[simp] theorem State.setResetPending_air (x : Option ResetKind) : (s.setResetPending x).air = s.air := rfl
@[simp] theorem State.setResetPending_corners (x : Option ResetKind) : (s.setResetPending x).corners = s.corners := rfl
@[simp] theorem State.setResetPending_loads (x : Option ResetKind) : (s.setResetPending x).loads = s.loads := rfl
@[simp] theorem State.setResetPending_kneel (x : Option ResetKind) : (s.setResetPending x).kneel = s.kneel := rfl
@[simp] theorem State.setResetPending_holdSet (x : Option ResetKind) : (s.setResetPending x).holdSet = s.holdSet := rfl
@[simp] theorem State.setResetPending_hold (x : Option ResetKind) : (s.setResetPending x).hold = s.hold := rfl
@[simp] theorem State.setResetPending_drive (x : Option ResetKind) : (s.setResetPending x).drive = s.drive := rfl
@[simp] theorem State.setResetPending_axle (x : Option ResetKind) : (s.setResetPending x).axle = s.axle := rfl
@[simp] theorem State.setResetPending_doors (x : Option ResetKind) : (s.setResetPending x).doors = s.doors := rfl
@[simp] theorem State.setResetPending_edges (x : Option ResetKind) : (s.setResetPending x).edges = s.edges := rfl
@[simp] theorem State.setResetPending_faults (x : Option ResetKind) : (s.setResetPending x).faults = s.faults := rfl
@[simp] theorem State.setResetPending_tables (x : Option ResetKind) : (s.setResetPending x).tables = s.tables := rfl
@[simp] theorem State.setResetPending_loading (x : Option ResetKind) : (s.setResetPending x).loading = s.loading := rfl
@[simp] theorem State.setResetPending_cursor (x : Option ResetKind) : (s.setResetPending x).cursor = s.cursor := rfl
@[simp] theorem State.setResetPending_part (x : Option ResetKind) : (s.setResetPending x).part = s.part := rfl
@[simp] theorem State.setResetPending_resetPending (x : Option ResetKind) : (s.setResetPending x).resetPending = x := rfl
@[simp] theorem State.setResetPending_self : s.setResetPending s.resetPending = s := rfl
@[simp] theorem State.setResetPending_twice (x y : Option ResetKind) : (s.setResetPending x).setResetPending y = s.setResetPending y := rfl

end Sys2Proof.Machine
end

