-- ==== Sys2Proof/Laws/Changes.lean ====
section
/-! SUPPORT. What an operation may change: `Changes l s t` says that t differs from s in the fields of l alone. One lemma per
operation, from the updates of State up to the blocks' work; the provers cite these and unfold nothing. -/

namespace Sys2Proof.Machine

set_option Elab.async false

/-- The fields of State by name. Two more names stand for what a notice leaves of the vehicle port and of the sequence counters. -/
inductive Fld where
  | pending | free | straps | station | vehicle | chassis | cycle | trim | seq | signals | motion | rear | joint | air
  | corners | loads | kneel | holdSet | hold | drive | axle | doors | edges | faults | tables | loading | cursor | part
  | resetPending | portRest | seqRest
deriving DecidableEq, Repr

/-- Two states agree in a field. -/
def Fld.same (s t : State) : Fld → Prop
  | .pending => t.pending = s.pending
  | .free => t.free = s.free
  | .straps => t.straps = s.straps
  | .station => t.station = s.station
  | .vehicle => t.vehicle = s.vehicle
  | .chassis => t.chassis = s.chassis
  | .cycle => t.cycle = s.cycle
  | .trim => t.trim = s.trim
  | .seq => t.seq = s.seq
  | .signals => t.signals = s.signals
  | .motion => t.motion = s.motion
  | .rear => t.rear = s.rear
  | .joint => t.joint = s.joint
  | .air => t.air = s.air
  | .corners => t.corners = s.corners
  | .loads => t.loads = s.loads
  | .kneel => t.kneel = s.kneel
  | .holdSet => t.holdSet = s.holdSet
  | .hold => t.hold = s.hold
  | .drive => t.drive = s.drive
  | .axle => t.axle = s.axle
  | .doors => t.doors = s.doors
  | .edges => t.edges = s.edges
  | .faults => t.faults = s.faults
  | .tables => t.tables = s.tables
  | .loading => t.loading = s.loading
  | .cursor => t.cursor = s.cursor
  | .part => t.part = s.part
  | .resetPending => t.resetPending = s.resetPending
  | .portRest => s.vehicle.OnlyOffered t.vehicle
  | .seqRest => t.seq = { s.seq with notice := t.seq.notice }

/-- t differs from s in the fields of l alone. -/
def Changes (l : List Fld) (s t : State) : Prop := ∀ f : Fld, f ∉ l → f.same s t

/-- The fields of a frame: t is s with the listed fields of t (the form of the obligations' frames). -/
theorem Changes.field {l : List Fld} {s t : State} (h : Changes l s t) (f : Fld) (hf : f ∉ l := by decide) : f.same s t := h f hf

/-- A change that does not list the rest of the port and of the counters sends notices alone. -/
theorem Changes.onlyNotices {l : List Fld} {s t : State} (h : Changes l s t) (hp : .portRest ∉ l := by decide)
    (hs : .seqRest ∉ l := by decide) : s.OnlyNotices t := ⟨h .portRest hp, h .seqRest hs⟩

theorem PortState.onlyOffered_refl (x : PortState) : x.OnlyOffered x := ⟨List.prefix_rfl, rfl⟩

theorem PortState.onlyOffered_trans {x y z : PortState} (h : x.OnlyOffered y) (k : y.OnlyOffered z) : x.OnlyOffered z := by
  obtain ⟨h1, h2⟩ := h
  obtain ⟨k1, k2⟩ := k
  exact ⟨h1.trans k1, by rw [k2, h2]⟩

theorem Changes.refl (l : List Fld) (s : State) : Changes l s s := by
  intro f _
  cases f <;> first | rfl | exact PortState.onlyOffered_refl s.vehicle

theorem Changes.mono {l k : List Fld} {s t : State} (h : Changes l s t) (hl : ∀ f ∈ l, f ∈ k := by decide) : Changes k s t :=
  fun f hf => h f (fun hm => hf (hl f hm))

theorem Changes.trans {l : List Fld} {s t u : State} (h : Changes l s t) (k : Changes l t u) : Changes l s u := by
  intro f hf
  have a := h f hf
  have b := k f hf
  cases f
  case portRest => exact PortState.onlyOffered_trans a b
  case seqRest =>
    change u.seq = _
    rw [show u.seq = _ from b, show t.seq = _ from a]
  all_goals exact Eq.trans b a

/-- A change of a smaller set of fields before. -/
theorem Changes.after {l k : List Fld} {s t u : State} (k' : Changes l t u) (h : Changes k s t)
    (hl : ∀ f ∈ k, f ∈ l := by decide) : Changes l s u := (h.mono hl).trans k'

theorem Changes.ite {l : List Fld} {s t u : State} {p : Prop} [Decidable p] (ht : p → Changes l s t) (hu : ¬ p → Changes l s u) :
    Changes l s (if p then t else u) := by
  split
  · exact ht ‹_›
  · exact hu ‹_›

theorem Changes.foldl {α : Type} {l : List Fld} {f : State → α → State} (h : ∀ x a, Changes l x (f x a)) (as : List α) (s : State) :
    Changes l s (as.foldl f s) := by
  induction as generalizing s with
  | nil => exact Changes.refl l s
  | cons a as ih => exact (h s a).trans (ih (f s a))

/-! ### The updates of State -/

theorem State.setPending_changes (s : State) (x : List Instr) : Changes [.pending] s (s.setPending x) := by
  intro f hf; cases f <;> first | rfl | exact PortState.onlyOffered_refl _ | exact absurd (by decide) hf

theorem State.setFree_changes (s : State) (x : Nat) : Changes [.free] s (s.setFree x) := by
  intro f hf; cases f <;> first | rfl | exact PortState.onlyOffered_refl _ | exact absurd (by decide) hf

theorem State.setStraps_changes (s : State) (x : BitVec 6) : Changes [.straps] s (s.setStraps x) := by
  intro f hf; cases f <;> first | rfl | exact PortState.onlyOffered_refl _ | exact absurd (by decide) hf

theorem State.setStation_changes (s : State) (x : BitVec 6) : Changes [.station] s (s.setStation x) := by
  intro f hf; cases f <;> first | rfl | exact PortState.onlyOffered_refl _ | exact absurd (by decide) hf

theorem State.setVehicle_changes (s : State) (x : PortState) : Changes [.vehicle, .portRest] s (s.setVehicle x) := by
  intro f hf; cases f <;> first | rfl | exact PortState.onlyOffered_refl _ | exact absurd (by decide) hf

theorem State.setChassis_changes (s : State) (x : PortState) : Changes [.chassis] s (s.setChassis x) := by
  intro f hf; cases f <;> first | rfl | exact PortState.onlyOffered_refl _ | exact absurd (by decide) hf

theorem State.setCycle_changes (s : State) (x : BitVec 16) : Changes [.cycle] s (s.setCycle x) := by
  intro f hf; cases f <;> first | rfl | exact PortState.onlyOffered_refl _ | exact absurd (by decide) hf

theorem State.setTrim_changes (s : State) (x : Int) : Changes [.trim] s (s.setTrim x) := by
  intro f hf; cases f <;> first | rfl | exact PortState.onlyOffered_refl _ | exact absurd (by decide) hf

theorem State.setSeq_changes (s : State) (x : SeqCounters) : Changes [.seq, .seqRest] s (s.setSeq x) := by
  intro f hf; cases f <;> first | rfl | exact PortState.onlyOffered_refl _ | exact absurd (by decide) hf

theorem State.setSignals_changes (s : State) (x : Vector SigRec 96) : Changes [.signals] s (s.setSignals x) := by
  intro f hf; cases f <;> first | rfl | exact PortState.onlyOffered_refl _ | exact absurd (by decide) hf

theorem State.setMotion_changes (s : State) (x : Motion) : Changes [.motion] s (s.setMotion x) := by
  intro f hf; cases f <;> first | rfl | exact PortState.onlyOffered_refl _ | exact absurd (by decide) hf

theorem State.setRear_changes (s : State) (x : RearSteer) : Changes [.rear] s (s.setRear x) := by
  intro f hf; cases f <;> first | rfl | exact PortState.onlyOffered_refl _ | exact absurd (by decide) hf

theorem State.setJoint_changes (s : State) (x : Joint) : Changes [.joint] s (s.setJoint x) := by
  intro f hf; cases f <;> first | rfl | exact PortState.onlyOffered_refl _ | exact absurd (by decide) hf

theorem State.setAir_changes (s : State) (x : Air) : Changes [.air] s (s.setAir x) := by
  intro f hf; cases f <;> first | rfl | exact PortState.onlyOffered_refl _ | exact absurd (by decide) hf

theorem State.setCorners_changes (s : State) (x : Vector Corner 6) : Changes [.corners] s (s.setCorners x) := by
  intro f hf; cases f <;> first | rfl | exact PortState.onlyOffered_refl _ | exact absurd (by decide) hf

theorem State.setLoads_changes (s : State) (x : Vector AxleLoad 3) : Changes [.loads] s (s.setLoads x) := by
  intro f hf; cases f <;> first | rfl | exact PortState.onlyOffered_refl _ | exact absurd (by decide) hf

theorem State.setKneel_changes (s : State) (x : Kneel) : Changes [.kneel] s (s.setKneel x) := by
  intro f hf; cases f <;> first | rfl | exact PortState.onlyOffered_refl _ | exact absurd (by decide) hf

theorem State.setHoldSet_changes (s : State) (x : List Claim) : Changes [.holdSet] s (s.setHoldSet x) := by
  intro f hf; cases f <;> first | rfl | exact PortState.onlyOffered_refl _ | exact absurd (by decide) hf

theorem State.setHold_changes (s : State) (x : Hold) : Changes [.hold] s (s.setHold x) := by
  intro f hf; cases f <;> first | rfl | exact PortState.onlyOffered_refl _ | exact absurd (by decide) hf

theorem State.setDrive_changes (s : State) (x : Drive) : Changes [.drive] s (s.setDrive x) := by
  intro f hf; cases f <;> first | rfl | exact PortState.onlyOffered_refl _ | exact absurd (by decide) hf

theorem State.setAxle_changes (s : State) (x : AxlePressure) : Changes [.axle] s (s.setAxle x) := by
  intro f hf; cases f <;> first | rfl | exact PortState.onlyOffered_refl _ | exact absurd (by decide) hf

theorem State.setDoors_changes (s : State) (x : Vector Door 4) : Changes [.doors] s (s.setDoors x) := by
  intro f hf; cases f <;> first | rfl | exact PortState.onlyOffered_refl _ | exact absurd (by decide) hf

theorem State.setEdges_changes (s : State) (x : Vector EdgeLine 4) : Changes [.edges] s (s.setEdges x) := by
  intro f hf; cases f <;> first | rfl | exact PortState.onlyOffered_refl _ | exact absurd (by decide) hf

theorem State.setFaults_changes (s : State) (x : FaultUnit) : Changes [.faults] s (s.setFaults x) := by
  intro f hf; cases f <;> first | rfl | exact PortState.onlyOffered_refl _ | exact absurd (by decide) hf

theorem State.setTables_changes (s : State) (x : Vector Table 9) : Changes [.tables] s (s.setTables x) := by
  intro f hf; cases f <;> first | rfl | exact PortState.onlyOffered_refl _ | exact absurd (by decide) hf

theorem State.setLoading_changes (s : State) (x : Option Loading) : Changes [.loading] s (s.setLoading x) := by
  intro f hf; cases f <;> first | rfl | exact PortState.onlyOffered_refl _ | exact absurd (by decide) hf

theorem State.setCursor_changes (s : State) (x : Option (Fin 9 × Bank)) : Changes [.cursor] s (s.setCursor x) := by
  intro f hf; cases f <;> first | rfl | exact PortState.onlyOffered_refl _ | exact absurd (by decide) hf

theorem State.setPart_changes (s : State) (x : PartState) : Changes [.part] s (s.setPart x) := by
  intro f hf; cases f <;> first | rfl | exact PortState.onlyOffered_refl _ | exact absurd (by decide) hf

theorem State.setResetPending_changes (s : State) (x : Option ResetKind) : Changes [.resetPending] s (s.setResetPending x) := by
  intro f hf; cases f <;> first | rfl | exact PortState.onlyOffered_refl _ | exact absurd (by decide) hf

end Sys2Proof.Machine
end

