-- ==== Sys2Proof/Laws/Ops.lean ====
section
/-! SUPPORT. One lemma per shared operation: the fields it may change. -/

namespace Sys2Proof.Machine

set_option Elab.async false

/-- What a notice changes: its sequence counter and the vehicle port. -/
abbrev noticeFields : List Fld := [.seq, .vehicle]

/-- What the end of a cause changes. -/
abbrev endFields : List Fld := [.seq, .vehicle, .faults]

/-- What a raise changes: a replaced CORNER-TIMEOUT frees its corner. -/
abbrev raiseFields : List Fld := [.seq, .vehicle, .faults, .corners]

/-- What a raise or an end changes with the level reports that follow it. -/
abbrev levelFields : List Fld := [.seq, .vehicle, .faults, .corners, .rear, .joint, .drive, .axle]

/-- What the hold and its set change. -/
abbrev holdFields : List Fld := [.seq, .vehicle, .faults, .holdSet, .hold, .drive, .axle]

/-- What the kneel changes, with its claim and its corners. -/
abbrev kneelFields : List Fld := [.seq, .vehicle, .faults, .holdSet, .hold, .drive, .axle, .kneel, .corners]

/-- What a door changes, with its claim and the reports of all four doors LOCKED. -/
abbrev doorFields : List Fld :=
  [.seq, .vehicle, .faults, .holdSet, .hold, .drive, .axle, .kneel, .corners, .rear, .doors]

/-! ### Ports, notices, commands -/

theorem State.setPort_vehicle_changes (s : State) (x : PortState) : Changes [.vehicle, .portRest] s (s.setPort .vehicle x) :=
  State.setVehicle_changes s x

theorem State.setPort_changes (s : State) (p : Port) (x : PortState) :
    Changes [.vehicle, .portRest, .chassis] s (s.setPort p x) := by
  cases p
  · exact (State.setVehicle_changes s x).mono
  · exact (State.setChassis_changes s x).mono

theorem offerFrame_changes (p : Port) (k : Offer) (f : Frame) (b : Bool) (s : State) :
    Changes [.vehicle, .portRest, .chassis] s (offerFrame p k f b s) := State.setPort_changes s p _

theorem offerFrame_vehicle_changes (k : Offer) (f : Frame) (b : Bool) (s : State) :
    Changes [.vehicle, .portRest] s (offerFrame .vehicle k f b s) := State.setVehicle_changes s _

/-- A notice offered to the vehicle port joins its queue or is counted as a drop. -/
theorem offerFrame_notice_onlyOffered (f : Frame) (b : Bool) (s : State) :
    s.vehicle.OnlyOffered (offerFrame .vehicle .notice f b s).vehicle := by
  change s.vehicle.OnlyOffered (if hasPlace s.vehicle.tx Offer.notice.cls then _ else _)
  split
  · exact ⟨List.prefix_append _ _, rfl⟩
  · exact ⟨List.prefix_rfl, rfl⟩

theorem sendNotice_changes (k : NoticeKind) (vals : List Int) (s : State) : Changes noticeFields s (sendNotice k vals s) := by
  unfold sendNotice
  split
  · exact Changes.refl _ s
  · intro f hf
    cases f <;> first | rfl | exact offerFrame_notice_onlyOffered _ _ (s.setSeq _) | exact absurd (by decide) hf

theorem buildCommand_changes (p : Port) (r : CmdRec) (s : State) :
    Changes [.seq, .seqRest, .vehicle, .portRest, .chassis] s (buildCommand p r s) :=
  (offerFrame_changes _ _ _ _ _).mono.after (State.setSeq_changes s _)

theorem scheduleCycle_changes (s : State) :
    Changes [.seq, .seqRest, .vehicle, .portRest, .chassis] s (scheduleCycle s) := by
  unfold scheduleCycle
  refine Changes.ite (fun _ => Changes.foldl (fun x v => ?_) _ s) (fun _ => Changes.refl _ s)
  unfold buildItem
  split
  · exact buildCommand_changes _ _ x
  · exact Changes.refl _ x

/-! ### The fault list -/

theorem reportRemoved_changes (e : Option FaultEntry) (s : State) : Changes [.corners] s (reportRemoved e s) := by
  unfold reportRemoved
  split
  · split
    · exact Changes.ite (fun _ => State.setCorners_changes s _) (fun _ => Changes.refl _ s)
    · exact Changes.refl _ s
  · exact Changes.refl _ s

theorem listFault_changes (c : FaultCode) (n : Nat) (s : State) : Changes raiseFields s (listFault c n s) :=
  (reportRemoved_changes _ _).mono.after
    ((sendNotice_changes _ _ _).mono.after (State.setFaults_changes s _) : Changes endFields s _)

theorem listEnd_changes (c : FaultCode) (n : Nat) (s : State) : Changes endFields s (listEnd c n s) := by
  unfold listEnd
  split
  · refine Changes.ite (fun _ => ?_) (fun _ => Changes.refl _ s)
    exact Changes.ite (fun _ => (State.setFaults_changes s _).mono)
      (fun _ => (sendNotice_changes _ _ _).mono.after (State.setFaults_changes s _))
  · exact Changes.refl _ s

/-! ### Axle pressures and the hold -/

theorem endSaturation_changes (s : State) (a : Fin 3) : Changes [.seq, .vehicle, .faults, .axle] s (endSaturation s a) := by
  unfold endSaturation
  refine Changes.ite (fun _ => ?_) (fun _ => Changes.refl _ s)
  exact Changes.ite (fun _ => (State.setAxle_changes s _).mono)
    (fun _ => (listEnd_changes _ _ _).mono.after (State.setAxle_changes s _))

theorem resolvePressures_changes (s : State) : Changes [.axle] s (resolvePressures s) := State.setAxle_changes s _

theorem resolveAxles_changes (s : State) : Changes [.seq, .vehicle, .faults, .axle] s (resolveAxles s) := by
  unfold resolveAxles
  refine Changes.ite (fun _ => ?_) (fun _ => Changes.refl _ s)
  exact (Changes.foldl endSaturation_changes _ _).after (resolvePressures_changes s)

theorem resolveIfHeld_changes (old : Hold) (s : State) : Changes [.seq, .vehicle, .faults, .axle] s (resolveIfHeld old s) :=
  Changes.ite (fun _ => Changes.refl _ s) (fun _ => resolveAxles_changes s)

theorem brakeLevelChanged_changes (s : State) : Changes [.seq, .vehicle, .faults, .axle] s (brakeLevelChanged s) :=
  Changes.ite (fun _ => (resolveAxles_changes _).after (State.setAxle_changes s _)) (fun _ => Changes.refl _ s)

theorem setInhibit_changes (s : State) : Changes [.drive] s (setInhibit s) := State.setDrive_changes s _

theorem dropClaim_changes (h : Holder) (s : State) : Changes [.holdSet, .drive] s (dropClaim h s) :=
  (setInhibit_changes _).mono.after (State.setHoldSet_changes s _)

theorem joinClaim_changes (h : Holder) (s : State) : Changes [.holdSet, .drive] s (joinClaim h s) :=
  (setInhibit_changes _).mono.after (State.setHoldSet_changes s _)

theorem enterHold_changes (new : HoldState) (cause : HoldCause) (s : State) : Changes holdFields s (enterHold new cause s) := by
  have h2 : Changes holdFields s (if new = .confirmed then dropClaim .startup (s.setHold (holdAt s new)) else s.setHold (holdAt s new)) :=
    Changes.ite (fun _ => (dropClaim_changes _ _).mono.after (State.setHold_changes s _))
      (fun _ => (State.setHold_changes s _).mono)
  have h3 := (sendNotice_changes .holdState
    [new.code, s.hold.state.code, cause.code
    , (if new = .confirmed then dropClaim .startup (s.setHold (holdAt s new)) else s.setHold (holdAt s new)).hold.pressure
    , (if new = .confirmed then dropClaim .startup (s.setHold (holdAt s new)) else s.setHold (holdAt s new)).holdSet.length]
    (if new = .confirmed then dropClaim .startup (s.setHold (holdAt s new)) else s.setHold (holdAt s new)))
  have h4 : Changes holdFields s _ := h3.mono.after h2
  show Changes holdFields s (leaveApplying new s.hold.state _)
  unfold leaveApplying
  exact Changes.ite (fun _ => (listEnd_changes _ _ _).mono.after h4) (fun _ => h4)

theorem releaseTest_changes (cause : HoldCause) (s : State) : Changes holdFields s (releaseTest cause s) :=
  Changes.ite (fun _ => enterHold_changes _ _ s) (fun _ => Changes.refl _ s)

theorem confirmTest_changes (s : State) : Changes holdFields s (confirmTest s).1 := by
  unfold confirmTest
  split
  · have h := enterHold_changes .confirmed .confirmed s
    exact Changes.ite (fun _ => (releaseTest_changes _ _).after h) (fun _ => h)
  · exact Changes.refl _ s

theorem applyHold_changes (cause : HoldCause) (s : State) : Changes holdFields s (applyHold cause s).1 :=
  (confirmTest_changes _).after (enterHold_changes _ _ s)

theorem holdOnAdd_changes (s : State) : Changes holdFields s (holdOnAdd s).1 := by
  unfold holdOnAdd
  split
  · split
    · split
      · exact applyHold_changes _ s
      · exact enterHold_changes _ _ s
    · exact applyHold_changes _ s
    · exact Changes.refl _ s
    · exact Changes.refl _ s
    · exact Changes.refl _ s
  · exact Changes.refl _ s

/-- Adding a claim changes the set, the hold, the drive record, the axle pressures, and what they report. -/
theorem addClaim_changes (h : Holder) (s : State) : Changes holdFields s (addClaim h s).1 := by
  unfold addClaim
  split
  · exact Changes.refl _ s
  · exact (resolveIfHeld_changes _ _).mono.after ((holdOnAdd_changes _).after (joinClaim_changes h s))

theorem holdOnRemove_changes (s : State) : Changes holdFields s (holdOnRemove s) := by
  unfold holdOnRemove
  split
  · split
    · exact enterHold_changes _ _ s
    · exact releaseTest_changes _ s
    · exact releaseTest_changes _ s
    · exact Changes.refl _ s
    · exact Changes.refl _ s
  · exact Changes.refl _ s

/-- Removing a claim changes the set, the hold, the drive record, the axle pressures, and what they report. -/
theorem removeClaim_changes (h : Holder) (s : State) : Changes holdFields s (removeClaim h s) :=
  Changes.ite (fun _ => (resolveIfHeld_changes _ _).mono.after ((holdOnRemove_changes _).after (dropClaim_changes h s)))
    (fun _ => Changes.refl _ s)

theorem holdOnStandstill_changes (s : State) : Changes holdFields s (holdOnStandstill s).1 := by
  unfold holdOnStandstill
  split
  · split
    · exact (resolveAxles_changes _).mono.after (applyHold_changes _ s)
    · split
      · exact Changes.refl _ s
      · exact (resolveAxles_changes _).mono.after (applyHold_changes _ s)
    · exact Changes.refl _ s
    · exact Changes.refl _ s
    · exact Changes.refl _ s
  · exact Changes.refl _ s

theorem holdOnDrive_changes (s : State) : Changes holdFields s (holdOnDrive s).1 := by
  unfold holdOnDrive
  split
  · split
    · exact (resolveIfHeld_changes _ _).mono.after (releaseTest_changes _ s)
    · exact (resolveIfHeld_changes _ _).mono.after (releaseTest_changes _ s)
    · split
      · exact Changes.refl _ s
      · exact (resolveAxles_changes _).mono.after (applyHold_changes _ s)
    · exact Changes.refl _ s
    · exact Changes.refl _ s
  · exact Changes.refl _ s

theorem holdOnActual_changes (s : State) : Changes holdFields s (holdOnActual s).1 := by
  unfold holdOnActual
  split
  · exact (resolveIfHeld_changes _ _).mono.after (confirmTest_changes s)
  · exact Changes.refl _ s

/-! ### Running gear -/

theorem retarget_changes (s : State) : Changes [.rear] s (retarget s) :=
  Changes.ite (fun _ => Changes.refl _ s) (fun _ => State.setRear_changes s _)

theorem evalLatch_changes (s : State) : Changes [.rear] s (evalLatch s) :=
  Changes.ite (fun _ => Changes.refl _ s) (fun _ => State.setRear_changes s _)

theorem resolveRear_changes (s : State) : Changes [.rear] s (resolveRear s) :=
  Changes.ite (fun _ => Changes.refl _ s) (fun _ => State.setRear_changes s _)

theorem rearMotion_changes (s : State) : Changes [.rear] s (rearMotion s) :=
  (resolveRear_changes _).after ((retarget_changes _).after (evalLatch_changes s))

theorem rearLevelChanged_changes (s : State) : Changes [.seq, .vehicle, .faults, .rear] s (rearLevelChanged s) := by
  have h := rearMotion_changes s
  unfold rearLevelChanged
  refine Changes.ite (fun _ => h.mono) (fun _ => ?_)
  have h2 : Changes [.rear] s ((rearMotion s).setRear { (rearMotion s).rear with trackTimer := 0 }) :=
    (State.setRear_changes _ _).after h
  exact Changes.ite (fun _ => h2.mono) (fun _ => (listEnd_changes _ _ _).mono.after h2)

theorem stepCommand_changes (s : State) : Changes [.rear] s (stepCommand s) :=
  Changes.ite (fun _ => (resolveRear_changes _).after (State.setRear_changes s _)) (fun _ => Changes.refl _ s)

theorem damp_changes (s : State) : Changes [.joint] s (damp s) :=
  Changes.ite (fun _ => State.setJoint_changes s _)
    (fun _ => Changes.ite (fun _ => State.setJoint_changes s _) (fun _ => State.setJoint_changes s _))

theorem evalGuard_changes (s : State) : Changes [.joint] s (evalGuard s) :=
  Changes.ite (fun _ => State.setJoint_changes s _) (fun _ => State.setJoint_changes s _)

theorem deriveTorque_changes (s : State) : Changes [.joint, .drive] s (deriveTorque s) :=
  Changes.ite (fun _ => Changes.refl _ s) (fun _ => (State.setDrive_changes _ _).mono.after (State.setJoint_changes s _))

theorem reportGuard_changes (old : Nat) (s : State) :
    Changes [.seq, .vehicle, .faults, .corners, .axle] s (reportGuard old s) := by
  unfold reportGuard
  refine Changes.ite (fun _ => Changes.refl _ s) (fun _ => ?_)
  refine Changes.trans ?_ (sendNotice_changes _ _ _).mono
  refine Changes.ite (fun _ => ?_) (fun _ => ?_)
  · exact (listFault_changes _ _ _).mono.after (resolveAxles_changes s)
  · exact Changes.ite (fun _ => (listEnd_changes _ _ _).mono.after (resolveAxles_changes s))
      (fun _ => (resolveAxles_changes s).mono)

theorem jointWork_changes (s : State) :
    Changes [.seq, .vehicle, .faults, .corners, .axle, .joint, .drive] s (jointWork s) :=
  (reportGuard_changes _ _).mono.after
    ((deriveTorque_changes _).after ((damp_changes _).after (evalGuard_changes s)) : Changes [.joint, .drive] s _)

theorem jointEvent_changes (s : State) :
    Changes [.seq, .vehicle, .faults, .corners, .axle, .joint, .drive] s (jointEvent s) :=
  Changes.ite (fun _ => jointWork_changes s) (fun _ => Changes.refl _ s)

/-! ### Corners -/

theorem State.setCorner_changes (s : State) (c : Fin 6) (k : Corner) : Changes [.corners] s (s.setCorner c k) :=
  State.setCorners_changes s _

theorem grants_changes (n : Nat) (s : State) : Changes [.corners] s (grants n s) := by
  induction n generalizing s with
  | zero => exact Changes.refl _ s
  | succ n ih =>
    unfold grants
    refine Changes.ite (fun _ => ?_) (fun _ => Changes.refl _ s)
    split
    · exact (ih _).after (State.setCorner_changes s _ _)
    · exact Changes.refl _ s

theorem preempts_changes (n : Nat) (s : State) : Changes [.corners] s (preempts n s) := by
  induction n generalizing s with
  | zero => exact Changes.refl _ s
  | succ n ih =>
    unfold preempts
    refine Changes.ite (fun _ => ?_) (fun _ => Changes.refl _ s)
    split
    · exact (ih _).after ((State.setCorner_changes _ _ _).after (State.setCorner_changes s _ _))
    · exact Changes.refl _ s

theorem shedSlots_changes (n : Nat) (s : State) : Changes [.corners] s (shedSlots n s) := by
  induction n generalizing s with
  | zero => exact Changes.refl _ s
  | succ n ih =>
    unfold shedSlots
    refine Changes.ite (fun _ => ?_) (fun _ => Changes.refl _ s)
    split
    · exact (ih _).after (State.setCorner_changes s _ _)
    · exact Changes.refl _ s

/-- The arbiter changes corner records alone. -/
theorem arbitrate_changes (s : State) : Changes [.corners] s (arbitrate s) :=
  (preempts_changes 6 _).after (grants_changes 6 s)

theorem withdraw_changes (s : State) : Changes [.corners] s (withdraw s) := State.setCorners_changes s _

theorem heightLevelChanged_changes (s : State) : Changes [.corners] s (heightLevelChanged s) :=
  Changes.ite (fun _ => withdraw_changes s) (fun _ => Changes.refl _ s)

theorem cornersKneel_changes (s : State) : Changes [.corners] s (cornersKneel s) :=
  (arbitrate_changes _).after ((withdraw_changes _).after (State.setCorners_changes s _))

theorem cornersMotion_changes (cleared : Bool) (s : State) : Changes [.corners] s (cornersMotion cleared s) :=
  Changes.ite (fun _ => (arbitrate_changes _).after (State.setCorners_changes s _)) (fun _ => Changes.refl _ s)

theorem cornerTimeout_changes (c : Fin 6) (s : State) : Changes raiseFields s (cornerTimeout c s) :=
  (listEnd_changes _ _ _).mono.after ((listFault_changes _ _ _).after (State.setCorner_changes s _ _))

theorem timeoutTest_changes (c : Fin 6) (s : State) : Changes raiseFields s (timeoutTest c s) :=
  Changes.ite
    (fun _ => Changes.ite (fun _ => (State.setCorner_changes s _ _).mono) (fun _ => cornerTimeout_changes c s))
    (fun _ => Changes.refl _ s)

theorem cornersCycle_changes (s : State) : Changes raiseFields s (cornersCycle s) :=
  Changes.ite
    (fun _ => Changes.trans (Changes.foldl (fun x c => Changes.trans
        ((timeoutTest_changes c _).after (State.setCorner_changes x _ _)) (State.setCorner_changes _ _ _).mono) _ s)
      (arbitrate_changes _).mono)
    (fun _ => Changes.refl _ s)

theorem heightReport_changes (c : Fin 6) (a w : Bool) (s : State) : Changes raiseFields s (heightReport c a w s) := by
  unfold heightReport
  refine Changes.ite (fun _ => ?_) (fun _ => Changes.refl _ s)
  refine Changes.ite (fun _ => (listEnd_changes _ _ _).mono.after (State.setCorner_changes s _ _)) (fun _ => ?_)
  exact Changes.ite (fun _ => (listFault_changes _ _ _).after (State.setCorner_changes s _ _)) (fun _ => Changes.refl _ s)

theorem reload_changes (a : Fin 3) (s : State) : Changes [.loads] s (reload a s) := State.setLoads_changes s _

theorem reportLoads_changes (l : Vector AxleLoad 3) (s : State) :
    Changes [.seq, .vehicle, .faults, .axle] s (reportLoads l s) :=
  Changes.ite (fun _ => Changes.refl _ s) (fun _ => resolveAxles_changes s)

theorem bellowsReport_changes (c : Fin 6) (w : Bool) (s : State) :
    Changes [.seq, .vehicle, .faults, .loads, .corners] s (bellowsReport c w s) := by
  unfold bellowsReport
  refine Changes.ite (fun _ => ?_) (fun _ => Changes.refl _ s)
  refine Changes.ite (fun _ => ?_) (fun _ => ?_)
  · exact Changes.trans (Changes.trans (State.setCorner_changes s _ _).mono (listEnd_changes _ _ _).mono) (reload_changes _ _).mono
  · refine Changes.trans (Changes.trans (t := s.setCorner c (suspendTest s c (s.corner c)))
      (State.setCorner_changes s _ _).mono ?_) (reload_changes _ _).mono
    exact Changes.ite (fun _ => (listFault_changes _ _ _).mono) (fun _ => Changes.refl _ _)

/-! ### Faults with the level reports -/

theorem reportLevels_changes (old : Levels) (s : State) : Changes levelFields s (reportLevels old s) := by
  have h1 : ∀ x : State, Changes levelFields x (reportSteering old x) := fun x =>
    Changes.ite (fun _ => Changes.refl _ x) (fun _ => (rearLevelChanged_changes x).mono)
  have h2 : ∀ x : State, Changes levelFields x (reportJoint old x) := fun x =>
    Changes.ite (fun _ => Changes.refl _ x) (fun _ => (jointEvent_changes x).mono)
  have h3 : ∀ x : State, Changes levelFields x (reportHeight old x) := fun x =>
    Changes.ite (fun _ => Changes.refl _ x) (fun _ => (heightLevelChanged_changes x).mono)
  have h4 : ∀ x : State, Changes levelFields x (reportBrake old x) := fun x =>
    Changes.ite (fun _ => Changes.refl _ x) (fun _ => (brakeLevelChanged_changes x).mono)
  exact (h4 _).after ((h3 _).after ((h2 _).after (h1 s)))

/-- Raising a fault, with the reports of the levels it changes. -/
theorem raiseFault_changes (c : FaultCode) (n : Nat) (s : State) : Changes levelFields s (raiseFault c n s) :=
  (reportLevels_changes _ _).after (listFault_changes c n s)

/-- Ending a cause, with the reports of the levels it changes. -/
theorem endCause_changes (c : FaultCode) (n : Nat) (s : State) : Changes levelFields s (endCause c n s) :=
  (reportLevels_changes _ _).after (listEnd_changes c n s)

theorem trackWork_changes (s : State) : Changes levelFields s (trackWork s) := by
  have h : Changes levelFields s (s.setRear { s.rear with trackTimer := (trackTest s).1 }) := (State.setRear_changes s _).mono
  exact Changes.ite (fun _ => (raiseFault_changes _ _ _).after h)
    (fun _ => Changes.ite (fun _ => (endCause_changes _ _ _).after h) (fun _ => h))

/-! ### Kneel -/

theorem kneelNotice_changes (new old : KneelState) (cause : KneelCause) (n : Nat) (s : State) :
    Changes noticeFields s (kneelNotice new old cause n s) := sendNotice_changes _ _ s

theorem toLevel_changes (cause : KneelCause) (s : State) : Changes kneelFields s (toLevel cause s) := by
  unfold toLevel
  refine Changes.trans (Changes.trans (Changes.trans (Changes.trans ?_ (removeClaim_changes _ _).mono)
    (cornersKneel_changes _).mono) (kneelNotice_changes _ _ _ _ _).mono) (listEnd_changes _ _ _).mono
  exact (State.setKneel_changes s _).mono

theorem completeRaising_changes (s : State) : Changes kneelFields s (completeRaising s) :=
  Changes.ite (fun _ => toLevel_changes _ s) (fun _ => Changes.refl _ s)

/-- The change of the kneel record that every entry into a state makes, with its corners and its notice. -/
theorem kneelEntry_changes (k : Kneel) (new old : KneelState) (cause : KneelCause) (n : Nat) (s : State) :
    Changes kneelFields s (kneelNotice new old cause n (cornersKneel (s.setKneel k))) :=
  Changes.trans (Changes.trans (State.setKneel_changes s _).mono (cornersKneel_changes _).mono) (kneelNotice_changes _ _ _ _ _).mono

theorem toRaising_changes (cause : KneelCause) (s : State) : Changes kneelFields s (toRaising cause s) :=
  (completeRaising_changes _).after (kneelEntry_changes _ _ _ _ _ s)

theorem driveRaise_changes (s : State) : Changes kneelFields s (driveRaise s) :=
  Changes.ite (fun _ => toRaising_changes _ s) (fun _ => Changes.refl _ s)

theorem toKnelt_changes (cause : KneelCause) (s : State) : Changes kneelFields s (toKnelt cause s) :=
  (driveRaise_changes _).after (kneelEntry_changes _ _ _ _ _ s)

theorem completeLowering_changes (s : State) : Changes kneelFields s (completeLowering s) :=
  Changes.ite (fun _ => toKnelt_changes _ s) (fun _ => Changes.refl _ s)

theorem toLowering_changes (cause : KneelCause) (s : State) : Changes kneelFields s (toLowering cause s) :=
  (completeLowering_changes _).after (kneelEntry_changes _ _ _ _ _ s)

theorem kneelCompletion_changes (s : State) : Changes kneelFields s (kneelCompletion s) :=
  Changes.ite (fun _ => (completeRaising_changes _).after (completeLowering_changes s)) (fun _ => Changes.refl _ s)

theorem refuseKneel_changes (r : KneelRefusal) (s : State) : Changes [.seq, .vehicle, .kneel] s (refuseKneel r s) :=
  Changes.trans (State.setKneel_changes s _).mono (sendNotice_changes _ _ _).mono

theorem acceptKneel_changes (s : State) : Changes kneelFields s (acceptKneel s).1 := by
  have h : Changes kneelFields s (addClaim .kneel s).1 := (addClaim_changes _ s).mono
  unfold acceptKneel
  generalize addClaim .kneel s = r at h ⊢
  have h2 := Changes.trans h (kneelEntry_changes { r.1.kneel with state := .waitHold, timer := 0 } .waitHold
    s.kneel.state .request s.kneel.timer r.1)
  dsimp only
  generalize kneelNotice .waitHold s.kneel.state .request s.kneel.timer
    (cornersKneel (r.1.setKneel { r.1.kneel with state := .waitHold, timer := 0 })) = x at h2 ⊢
  exact Changes.ite (fun _ => Changes.trans h2 (toLowering_changes _ _)) (fun _ => h2)

theorem kneelLower_changes (s : State) : Changes kneelFields s (kneelLower s).1 := by
  unfold kneelLower
  split
  · split
    · exact acceptKneel_changes s
    · exact (refuseKneel_changes _ s).mono
  · exact (refuseKneel_changes _ s).mono
  · exact Changes.refl _ s
  · exact Changes.refl _ s
  · exact Changes.refl _ s

theorem kneelRaise_changes (s : State) : Changes kneelFields s (kneelRaise s) := by
  unfold kneelRaise
  split
  · exact toLevel_changes _ s
  · exact toRaising_changes _ s
  · exact toRaising_changes _ s
  · exact Changes.refl _ s
  · exact Changes.refl _ s

theorem kneelMoving_changes (s : State) : Changes kneelFields s (kneelMoving s) := by
  unfold kneelMoving
  split
  · exact toRaising_changes _ s
  · exact toRaising_changes _ s
  · exact toRaising_changes _ s
  · exact Changes.refl _ s
  · exact Changes.refl _ s

theorem kneelDoors_changes (s : State) : Changes kneelFields s (kneelDoors s) :=
  Changes.ite (fun _ => toRaising_changes _ s) (fun _ => Changes.refl _ s)

theorem kneelConfirmed_changes (s : State) : Changes kneelFields s (kneelConfirmed s) :=
  Changes.ite (fun _ => toLowering_changes _ s) (fun _ => Changes.refl _ s)

/-! ### Doors -/

theorem State.setDoor_changes (s : State) (d : Fin 4) (x : Door) : Changes [.doors] s (s.setDoor d x) :=
  State.setDoors_changes s _

theorem doorLeft_changes (d : Fin 4) (old : DoorState) (s : State) : Changes endFields s (doorLeft d old s) :=
  Changes.ite (fun _ => (listEnd_changes _ _ _).after (listEnd_changes _ _ s))
    (fun _ => Changes.ite (fun _ => listEnd_changes _ _ s) (fun _ => Changes.refl _ s))

theorem raiseDoor_changes (d : Fin 4) (fault : Option FaultCode) (s : State) : Changes raiseFields s (raiseDoor d fault s) := by
  cases fault
  · exact Changes.refl _ s
  · exact listFault_changes _ _ s

theorem reportAllLocked_changes (before : Bool) (s : State) : Changes doorFields s (reportAllLocked before s) :=
  Changes.ite (fun _ => Changes.refl _ s) (fun _ =>
    Changes.ite (fun _ => (kneelDoors_changes _).mono.after (resolveRear_changes s)) (fun _ => (resolveRear_changes s).mono))

/-- Steps 2 to 5 of a change of a door's state. -/
theorem moveDoor_changes (d : Fin 4) (new : DoorState) (cause : DoorCause) (fault : Option FaultCode) (s : State) :
    Changes doorFields s (moveDoor d new cause fault s) := by
  have h1 : Changes doorFields s (raiseDoor d fault (doorLeft d (s.door d).state (s.setDoor d ((s.door d).enter new cause)))) :=
    (raiseDoor_changes _ _ _).mono.after
      ((doorLeft_changes _ _ _).mono.after (State.setDoor_changes s _ _) : Changes doorFields s _)
  refine (sendNotice_changes _ _ _).mono.after ((reportAllLocked_changes _ _).after (?_ : Changes doorFields s _) :
    Changes doorFields s _)
  exact Changes.ite
    (fun _ => (removeClaim_changes _ _).mono.after ((listEnd_changes _ _ _).mono.after h1 : Changes doorFields s _)) (fun _ => h1)

/-- A change of a door's state. -/
theorem changeDoor_changes (d : Fin 4) (new : DoorState) (cause : DoorCause) (fault : Option FaultCode) (s : State) :
    Changes doorFields s (changeDoor d new cause fault s).1 := by
  unfold changeDoor
  split
  · exact (moveDoor_changes _ _ _ _ _).after (addClaim_changes _ s)
  · exact moveDoor_changes _ _ _ _ s

theorem gateTest_changes (d : Fin 4) (s : State) : Changes doorFields s (gateTest d s) := by
  unfold gateTest
  refine Changes.ite (fun _ => ?_) (fun _ => Changes.refl _ s)
  split
  · exact moveDoor_changes _ _ _ _ s
  · exact moveDoor_changes _ _ _ _ s

theorem gateTests_changes (s : State) : Changes doorFields s (gateTests s) :=
  Changes.ite (fun _ => Changes.foldl (fun x d => gateTest_changes d x) _ s) (fun _ => Changes.refl _ s)

theorem enterWait_changes (d : Fin 4) (cause : DoorCause) (s : State) : Changes doorFields s (enterWait d cause s).1 :=
  (gateTest_changes _ _).after (changeDoor_changes _ _ _ _ s)

theorem releaseRefused_changes (request : Int) (n : Nat) (r : ReleaseReason) (s : State) :
    Changes noticeFields s (releaseRefused request n r s) := sendNotice_changes _ _ s

theorem releaseLocked_changes (d : Fin 4) (s : State) : Changes doorFields s (releaseLocked d s).1 := by
  unfold releaseLocked
  dsimp only
  split
  · exact Changes.refl _ s
  · split
    · exact (enterWait_changes _ _ _).after (State.setDoor_changes s _ _)
    · split
      · exact (State.setDoor_changes s _ _).mono
      · exact (releaseRefused_changes _ _ _ s).mono

theorem releaseDoor_changes (d : Fin 4) (s : State) : Changes doorFields s (releaseDoor d s).1 := by
  unfold releaseDoor
  split
  · exact (releaseRefused_changes _ _ _ s).mono
  · split
    · exact releaseLocked_changes d s
    · exact Changes.refl _ s

theorem closeOfOpen_changes (d : Fin 4) (cause : DoorCause) (s : State) : Changes doorFields s (closeOfOpen d cause s) := by
  have h1 : Changes doorFields s
      (if reversalLimit s d ≤ ((s.door d).reversals : Int) then
        endObstruction d (s.setDoor d { s.door d with reversals := 0 }) else s) :=
    Changes.ite (fun _ => (listEnd_changes _ _ _).mono.after (State.setDoor_changes s _ _)) (fun _ => Changes.refl _ s)
  exact Changes.ite (fun _ => (State.setDoor_changes _ _ _).mono.after h1) (fun _ => (moveDoor_changes _ _ _ _ _).after h1)

theorem closeDoor_changes (d : Fin 4) (s : State) : Changes doorFields s (closeDoor d s) := by
  unfold closeDoor
  split
  · exact (State.setDoor_changes s _ _).mono
  · exact moveDoor_changes _ _ _ _ s
  · exact moveDoor_changes _ _ _ _ s
  · exact closeOfOpen_changes _ _ s
  all_goals exact Changes.refl _ s

theorem reverse_changes (d : Fin 4) (s : State) : Changes doorFields s (reverse d s) :=
  (moveDoor_changes _ _ _ _ _).after (State.setDoor_changes s _ _)

theorem edgeEvent_changes (d : Fin 4) (s : State) : Changes doorFields s (edgeEvent d s) := by
  unfold edgeEvent
  refine Changes.ite (fun _ => ?_) (fun _ => Changes.refl _ s)
  split
  · exact (State.setDoor_changes s _ _).mono
  · exact moveDoor_changes _ _ _ _ s
  · exact reverse_changes _ s
  all_goals exact Changes.refl _ s

theorem openingCycle_changes (d : Fin 4) (s : State) : Changes doorFields s (openingCycle d s) := by
  have h : Changes doorFields s (countDoor d s) := (State.setDoor_changes s _ _).mono
  exact Changes.ite (fun _ => Changes.ite (fun _ => (moveDoor_changes _ _ _ _ _).after h) (fun _ => h)) (fun _ => Changes.refl _ s)

theorem openCycle_changes (d : Fin 4) (s : State) : Changes doorFields s (openCycle d s) := by
  have h : Changes doorFields s (countDoor d s) := (State.setDoor_changes s _ _).mono
  exact Changes.ite (fun _ => Changes.ite (fun _ => (closeOfOpen_changes _ _ _).after h) (fun _ => h)) (fun _ => Changes.refl _ s)

theorem warningCycle_changes (d : Fin 4) (s : State) : Changes doorFields s (warningCycle d s) := by
  have h : Changes doorFields s (countDoor d s) := (State.setDoor_changes s _ _).mono
  exact Changes.ite (fun _ => (moveDoor_changes _ _ _ _ _).after h) (fun _ => h)

theorem closingCycle_changes (d : Fin 4) (s : State) : Changes doorFields s (closingCycle d s) := by
  have h : Changes doorFields s (countDoor d s) := (State.setDoor_changes s _ _).mono
  exact Changes.ite (fun _ => (moveDoor_changes _ _ _ _ _).after h) (fun _ => h)

theorem doorsCycle_changes (s : State) : Changes doorFields s (doorsCycle s) := by
  refine Changes.ite (fun _ => Changes.foldl (fun x d => ?_) _ s) (fun _ => Changes.refl _ s)
  unfold doorCycle
  split
  · exact openingCycle_changes d x
  · exact openingCycle_changes d x
  · exact openCycle_changes d x
  · exact warningCycle_changes d x
  · exact closingCycle_changes d x
  · exact gateTest_changes d x
  all_goals exact Changes.refl _ x

/-! ### The air record, and the height unit at a batch of reports -/

/-- What the height unit changes at a batch: the air record, the corners and their loads, the kneel with its claim, and what a
change of a level brings about. -/
abbrev heightFields : List Fld :=
  [.seq, .vehicle, .faults, .corners, .rear, .joint, .drive, .axle, .air, .loads, .kneel, .holdSet, .hold]

theorem roleFault_changes (r : Role) (c : FaultCode) (l : List SigReport) (s : State) :
    Changes levelFields s (roleFault r c l s) := by
  unfold roleFault
  split
  · refine Changes.ite (fun _ => Changes.refl _ s) (fun _ => Changes.ite (fun _ => endCause_changes _ _ s) (fun _ => ?_))
    exact Changes.ite (fun _ => raiseFault_changes _ _ s) (fun _ => Changes.refl _ s)
  · exact Changes.refl _ s

theorem gearFaults_changes (l : List SigReport) (s : State) : Changes levelFields s (gearFaults l s) :=
  (roleFault_changes _ _ _ _).after ((roleFault_changes _ _ _ _).after (roleFault_changes _ _ _ s))

theorem airFaults_changes (old new : AirLevel) (s : State) : Changes levelFields s (airFaults old new s) := by
  have h : Changes levelFields s
      (if old = .reserve then endCause .reservoirLow 0 s else if old = .unknown then endCause .reservoirLost 0 s else s) :=
    Changes.ite (fun _ => endCause_changes _ _ s)
      (fun _ => Changes.ite (fun _ => endCause_changes _ _ s) (fun _ => Changes.refl _ s))
  refine Changes.ite (fun _ => Changes.refl _ s) (fun _ => Changes.ite (fun _ => ?_) (fun _ => Changes.ite (fun _ => ?_) (fun _ => h)))
  · exact (raiseFault_changes _ _ _).after h
  · exact (raiseFault_changes _ _ _).after h

theorem airReport_changes (s : State) : Changes heightFields s (airReport s) := by
  refine Changes.ite (fun _ => ?_) (fun _ => Changes.refl _ s)
  exact Changes.trans (Changes.trans (State.setAir_changes s _).mono (withdraw_changes _).mono) (airFaults_changes _ _ _).mono

theorem heightReportIn_changes (l : List SigReport) (c : Fin 6) (s : State) : Changes heightFields s (heightReportIn l c s) := by
  unfold heightReportIn
  split
  · exact (heightReport_changes _ _ _ s).mono
  · exact Changes.refl _ s

theorem bellowsReportIn_changes (l : List SigReport) (c : Fin 6) (s : State) : Changes heightFields s (bellowsReportIn l c s) := by
  unfold bellowsReportIn
  split
  · exact (bellowsReport_changes _ _ s).mono
  · exact Changes.refl _ s

/-- The height unit at a batch of reports. -/
theorem heightReports_changes (l : List SigReport) (s : State) : Changes heightFields s (heightReports l s) := by
  have air : Changes heightFields s (if hasReport .reservoir l then airReport s else s) :=
    Changes.ite (fun _ => airReport_changes s) (fun _ => Changes.refl _ s)
  have heights := fun x => Changes.foldl (f := fun x c => heightReportIn l c x) (fun y c => heightReportIn_changes l c y) cornerIx x
  have bellows := fun x => Changes.foldl (f := fun x c => bellowsReportIn l c x) (fun y c => bellowsReportIn_changes l c y) cornerIx x
  have slots : ∀ x : State, Changes heightFields x
      (if cornersReported l then arbitrate (if hasReport .frontAngle l then suspendAll x else x) else x) := fun x => by
    refine Changes.ite (fun _ => Changes.trans (Changes.ite (fun _ => ?_) (fun _ => Changes.refl _ x)) (arbitrate_changes _).mono)
      (fun _ => Changes.refl _ x)
    exact (State.setCorners_changes x _).mono
  have kneel : ∀ x : State, Changes heightFields x (if kneelHeightReported l x then kneelCompletion x else x) := fun x =>
    Changes.ite (fun _ => (kneelCompletion_changes x).mono) (fun _ => Changes.refl _ x)
  have drive : ∀ x : State, Changes heightFields x (if hasReport .driveRequest l then kneelDrive x else x) := fun x =>
    Changes.ite (fun _ => Changes.ite (fun _ => (driveRaise_changes x).mono) (fun _ => Changes.refl _ x)) (fun _ => Changes.refl _ x)
  exact Changes.ite
    (fun _ => Changes.trans (Changes.trans (Changes.trans (Changes.trans (Changes.trans (Changes.trans air (heights _)) (bellows _))
      (slots _)) (kneel _)) (reportLoads_changes _ _).mono) (drive _))
    (fun _ => Changes.refl _ s)

end Sys2Proof.Machine
end

