-- ==== Sys2Proof/Laws/Values.lean ====
section
/-! SUPPORT. What the shared operations compute: arithmetic within its bounds, a frame offered to a queue, the fault list after a
raise and after the end of a cause, the hold set after an addition and a removal, a door in a new state, the axle
pressures, the fills. -/

namespace Sys2Proof.Machine

set_option Elab.async false

/-! ### Arithmetic -/

theorem le_clamp {lo hi : Int} (h : lo ≤ hi) (x : Int) : lo ≤ clamp lo hi x := by
  unfold clamp
  split
  · omega
  · split <;> omega

theorem clamp_le {lo hi : Int} (h : lo ≤ hi) (x : Int) : clamp lo hi x ≤ hi := by
  unfold clamp
  split
  · omega
  · split <;> omega

theorem clamp_of_mem {lo hi x : Int} (h1 : lo ≤ x) (h2 : x ≤ hi) : clamp lo hi x = x := by
  unfold clamp
  split
  · omega
  · split <;> omega

theorem satSucc_le {top n : Nat} (h : n ≤ top) : satSucc top n ≤ top := by
  unfold satSucc
  split <;> omega

/-! ### A frame offered to a transmit queue (R15) -/

theorem State.setPort_port (s : State) (p : Port) (x : PortState) : (s.setPort p x).port p = x := by cases p <;> rfl

theorem State.setPort_port_other (s : State) {p q : Port} (h : q ≠ p) (x : PortState) : (s.setPort p x).port q = s.port q := by
  cases p <;> cases q <;> first | rfl | exact absurd rfl h

/-- The port's record after an offer: the frame at the tail where it has a place, else its drop counter raised. -/
theorem offerFrame_port (p : Port) (k : Offer) (f : Frame) (b : Bool) (s : State) :
    (offerFrame p k f b s).port p =
      if hasPlace (s.port p).tx k.cls then
        { s.port p with tx := (s.port p).tx ++ [{ frame := f, cls := k.cls, resetReply := b }] }
      else { s.port p with ctr := countDrop k (s.port p).ctr } := State.setPort_port s p _

theorem offerFrame_port_other (p q : Port) (h : q ≠ p) (k : Offer) (f : Frame) (b : Bool) (s : State) :
    (offerFrame p k f b s).port q = s.port q := State.setPort_port_other s h _

theorem limitedHeld_append (q : List TxEntry) (e : TxEntry) :
    limitedHeld (q ++ [e]) = limitedHeld q + if e.cls = .limited then 1 else 0 := by
  unfold limitedHeld
  rw [List.filter_append, List.length_append]
  cases h : e.cls <;> simp [h]

theorem hasPlace_spec {q : List TxEntry} {c : TxClass} (h : hasPlace q c = true) :
    q.length < 32 ∧ (c = .limited → limitedHeld q < 24) := by
  unfold hasPlace at h
  cases c <;> simp_all

/-- An offer keeps the queues within their places. -/
theorem offerFrame_bounded (p : Port) (k : Offer) (f : Frame) (b : Bool) (s : State) (h : (s.port p).Bounded) :
    ((offerFrame p k f b s).port p).Bounded := by
  rw [offerFrame_port]
  split
  · rename_i hp
    obtain ⟨h1, h2⟩ := hasPlace_spec hp
    refine ⟨h.1, ?_, ?_⟩
    · simp only [List.length_append, List.length_singleton]
      omega
    · rw [limitedHeld_append]
      split
      · have := h2 ‹_›
        omega
      · exact h.2.2
  · exact h

/-- An offer touches no count of accepted or classified frames. -/
theorem offerFrame_conserved (p : Port) (k : Offer) (f : Frame) (b : Bool) (s : State) (h : (s.port p).Conserved) :
    ((offerFrame p k f b s).port p).Conserved := by
  rw [offerFrame_port]
  split
  · exact h
  · unfold PortState.Conserved at h ⊢
    cases k <;> exact h

/-! ### The fault list (9.3) -/

/-- A unit given a list by `withList` has the levels and lamps of that list. -/
theorem FaultUnit.withList_derived (u : FaultUnit) (l : List FaultEntry) :
    (u.withList l).list = l ∧ (u.withList l).overflow = u.overflow ∧ (u.withList l).levels = levelsOf l
      ∧ (u.withList l).amber = anyActive l ∧ (u.withList l).red = anyRed l := ⟨rfl, rfl, rfl, rfl, rfl⟩

theorem FaultEntry.isFor_iff (c : FaultCode) (n : Nat) (e : FaultEntry) : e.isFor c n = true ↔ e.pair = (c, n) := by
  unfold FaultEntry.isFor FaultEntry.pair
  simp

/-- The end of a cause changes no pair of the list. -/
theorem endIn_pairs (c : FaultCode) (n : Nat) (l : List FaultEntry) :
    (endIn c n l).map FaultEntry.pair = l.map FaultEntry.pair := by
  unfold endIn
  rw [List.map_map]
  refine List.map_congr_left (fun e _ => ?_)
  simp only [Function.comp]
  split <;> rfl

theorem find?_isFor_none {c : FaultCode} {n : Nat} {l : List FaultEntry} (h : l.find? (FaultEntry.isFor c n) = none) :
    (c, n) ∉ l.map FaultEntry.pair := by
  intro hm
  obtain ⟨e, he, hp⟩ := List.mem_map.mp hm
  exact absurd ((FaultEntry.isFor_iff c n e).mpr hp) (by simpa using List.find?_eq_none.mp h e he)

/-- What taking out the INACTIVE entry nearest the head does. -/
theorem takeFirstInactive_spec {l rest : List FaultEntry} {x : FaultEntry} (h : takeFirstInactive l = some (x, rest)) :
    ∃ pre post, l = pre ++ x :: post ∧ rest = pre ++ post ∧ x.active = false ∧ ∀ e ∈ pre, e.active = true := by
  induction l generalizing rest with
  | nil => simp [takeFirstInactive] at h
  | cons e es ih =>
    unfold takeFirstInactive at h
    split at h
    · split at h
      · rename_i ha _ y r hr
        simp only [Option.some.injEq, Prod.mk.injEq] at h
        obtain ⟨rfl, rfl⟩ := h
        obtain ⟨pre, post, h1, h2, h3, h4⟩ := ih hr
        refine ⟨e :: pre, post, by rw [h1]; rfl, by rw [h2]; rfl, h3, ?_⟩
        intro a hm
        cases List.mem_cons.mp hm with
        | inl q => exact q ▸ ha
        | inr q => exact h4 a q
      · exact absurd h (by simp)
    · simp only [Option.some.injEq, Prod.mk.injEq] at h
      obtain ⟨rfl, rfl⟩ := h
      exact ⟨[], es, rfl, rfl, by simpa using ‹¬ e.active = true›, by simp⟩

theorem again_pairs (c : FaultCode) (n : Nat) (cycle : BitVec 16) (l : List FaultEntry) :
    (l.map (fun x => if FaultEntry.isFor c n x then x.again cycle else x)).map FaultEntry.pair = l.map FaultEntry.pair := by
  rw [List.map_map]
  refine List.map_congr_left (fun e _ => ?_)
  simp only [Function.comp]
  split <;> rfl

/-- The end of a cause keeps the list sound. -/
theorem listEnd_sound (c : FaultCode) (n : Nat) (s : State) (h : s.FaultsSound) : (listEnd c n s).FaultsSound := by
  have hu : (s.setFaults (s.faults.withList (endIn c n s.faults.list))).FaultsSound := by
    refine ⟨?_, ?_, rfl, rfl, rfl⟩
    · show (endIn c n s.faults.list).length ≤ 32
      unfold endIn
      rw [List.length_map]
      exact h.1
    · show ((endIn c n s.faults.list).map FaultEntry.pair).Nodup
      rw [endIn_pairs]
      exact h.2.1
  unfold listEnd
  split
  · split
    · split
      · exact hu
      · have e := (sendNotice_changes .faultHealed [c.code, n, 0, (‹FaultEntry›).count]
          (s.setFaults (s.faults.withList (endIn c n s.faults.list)))).field .faults
        unfold State.FaultsSound
        simp only [Fld.same] at e
        rw [e]
        exact hu
    · exact h
  · exact h

/-! ### The hold set (7.2) -/

@[simp] theorem joinClaim_holdSet (h : Holder) (s : State) :
    (joinClaim h s).holdSet = s.holdSet ++ [{ holder := h, stamp := s.cycle }] := rfl

@[simp] theorem joinClaim_drive (h : Holder) (s : State) : (joinClaim h s).drive = { s.drive with inhibit := true } := by
  unfold joinClaim setInhibit
  simp

@[simp] theorem dropClaim_holdSet (h : Holder) (s : State) :
    (dropClaim h s).holdSet = s.holdSet.filter (fun c => decide (c.holder ≠ h)) := rfl

@[simp] theorem dropClaim_drive (h : Holder) (s : State) :
    (dropClaim h s).drive = { s.drive with inhibit := !(dropClaim h s).holdSet.isEmpty } := rfl

theorem claims_iff (s : State) (h : Holder) : s.claims h = true ↔ h ∈ s.holdSet.map Claim.holder := by
  unfold State.claims
  simp only [List.any_eq_true, decide_eq_true_eq, List.mem_map]

theorem joinClaim_claims (h k : Holder) (s : State) : (joinClaim h s).claims k = (s.claims k || decide (h = k)) := by
  unfold State.claims
  simp

theorem dropClaim_claims_self (h : Holder) (s : State) : (dropClaim h s).claims h = false := by
  unfold State.claims
  simp

theorem dropClaim_claims_other {h k : Holder} (n : k ≠ h) (s : State) : (dropClaim h s).claims k = s.claims k := by
  unfold State.claims
  rw [dropClaim_holdSet, List.any_filter]
  congr 1
  funext c
  by_cases e : c.holder = k
  · simp [e, n]
  · simp [e]

/-- Dropping a claim keeps the set sound. -/
theorem dropClaim_sound (h : Holder) (s : State) (hs : s.HoldSound) : (dropClaim h s).HoldSound :=
  ⟨(List.Nodup.sublist (List.Sublist.map _ List.filter_sublist) hs.1), rfl⟩

/-- Joining an absent claim keeps the set sound. -/
theorem joinClaim_sound (h : Holder) (s : State) (hs : s.HoldSound) (ha : s.claims h = false) : (joinClaim h s).HoldSound := by
  refine ⟨?_, rfl⟩
  rw [joinClaim_holdSet, List.map_append, List.map_singleton]
  refine List.Nodup.append hs.1 (List.nodup_singleton h) ?_
  intro x hx hy
  rw [List.mem_singleton.mp hy] at hx
  rw [(claims_iff s h).mpr hx] at ha
  exact Bool.noConfusion ha

/-! ### A door in a new state (R145) -/

section
variable (new : DoorState) (c : DoorCause) (d : Door)

@[simp] theorem Door.enter_state : (d.enter new c).state = new := rfl
@[simp] theorem Door.enter_position : (d.enter new c).position = d.position := rfl
@[simp] theorem Door.enter_mode : (d.enter new c).mode = d.mode := rfl
@[simp] theorem Door.enter_timer : (d.enter new c).timer = 0 := rfl
@[simp] theorem Door.enter_closeDeferred : (d.enter new c).closeDeferred = false := rfl
@[simp] theorem Door.enter_pendingRelease : (d.enter new c).pendingRelease = (d.pendingRelease && !clearsPending new c) := rfl
@[simp] theorem Door.enter_tone : (d.enter new c).tone = new.tone := rfl
@[simp] theorem Door.enter_lastButton : (d.enter new c).lastButton = d.lastButton := rfl
@[simp] theorem Door.enter_lastHandle : (d.enter new c).lastHandle = d.lastHandle := rfl

end

theorem State.setDoor_door (s : State) (d : Fin 4) (x : Door) : (s.setDoor d x).door d = x := by
  show (s.doors.set d x)[d] = x
  simp

theorem State.setDoor_door_other (s : State) {d e : Fin 4} (h : e ≠ d) (x : Door) : (s.setDoor d x).door e = s.door e := by
  show (s.doors.set d x)[e] = s.doors[e]
  have : d.val ≠ e.val := fun q => h (Fin.ext q.symm)
  simp [this]

/-! ### Axle pressures and fills -/

@[simp] theorem resolvePressures_satTimer (s : State) : (resolvePressures s).axle.satTimer = s.axle.satTimer := rfl
@[simp] theorem resolvePressures_decel (s : State) : (resolvePressures s).axle.decel = s.axle.decel := rfl
@[simp] theorem resolvePressures_backup (s : State) : (resolvePressures s).axle.backup = s.axle.backup := rfl

/-- A corner that still fills after a withdrawal has its permission, and is as it was. -/
theorem withdraw_filling (s : State) (c : Fin 6) (h : ((withdraw s).corner c).valve = .filling) :
    fillPermitted s (s.corner c).cls = true ∧ (withdraw s).corner c = s.corner c := by
  have e : (withdraw s).corner c =
      if (s.corner c).valve = .filling ∧ fillPermitted s (s.corner c).cls = false then (s.corner c).backToWait
      else s.corner c := by
    show (s.corners.map _)[c.val] = _
    rw [Vector.getElem_map]
    rfl
  rw [e] at h ⊢
  split at h
  · exact absurd h (by simp [Corner.backToWait])
  · rename_i hn
    rw [if_neg hn]
    exact ⟨by simpa [h] using hn, rfl⟩

end Sys2Proof.Machine
end

