-- ==== Sys2Proof/Tests/Slice0.lean ====
section
/-! SUPPORT. The model's own tests: what WellFormed refuses, single commands against the manual's worked cases and tables, and one
witness for the hypotheses of each statement of the obligations. -/

namespace Sys2Proof.Tests

set_option Elab.async false

open Sys2Proof.Machine

/-! ### States for the tests -/

/-- An active bank in use. -/
def bank (vals : List Int) : Table := { Table.empty with valid := true, active := vals.map toVal }

/-- A signal definition with gain 1, no offset and policy LOSE after 255 cycles. -/
def sig (role source tag position lower upper : Int) : List Int :=
  [role, source, tag, position, 256, 0, lower, upper, 255, 2, 0, max lower 0]

/-- Two routes: every sample from the chassis is consumed, every request from the vehicle is taken. -/
def routes : List Int := [2, 0, 0, 0, 255, 0, 0, 0, 2, 1, 0, 0, 255, 1, 0, 0]

/-- One definition for each role that the tests read, in the order of the roles' codes; each station has the number 10 and its
place; then a second wheel speed beside the first, and the buttons and the emergency handles of the doors. -/
def definitions : List Int :=
  (sig 1 11 1 0 (-4500) 4500 ++ sig 2 12 1 0 (-6000) 6000 ++ sig 3 13 1 0 (-2000) 2000 ++ sig 4 14 1 0 0 15000)
    ++ ((List.range 6).map (fun c => sig (5 + c) (15 + c) 1 0 (-300) 300)).flatten
    ++ ((List.range 6).map (fun c => sig (11 + c) (21 + c) 1 0 0 1000)).flatten
    ++ (sig 17 27 1 0 0 1500 ++ sig 18 28 1 0 0 700 ++ sig 19 29 1 0 0 1000)
    ++ ((List.range 3).map (fun c => sig (20 + c) (30 + c) 1 0 0 1000)).flatten
    ++ ((List.range 4).map (fun c => sig (23 + c) (33 + c) 1 0 0 10)).flatten
    ++ sig 4 14 1 1 0 15000
    ++ ((List.range 8).map (fun c => sig (27 + c) (37 + c) 1 0 0 1)).flatten

/-- The T3 of the worked cases of 3.5. -/
def steering : List Int :=
  [0, 500, 1000, 1500, 2000, 3000, 4000, 6000, 8000]
    ++ [-4500, -3500, -2500, -1800, -1200, -700, -300, -100, 0, 100, 300, 700, 1200, 1800, 2500, 3500, 4500]
    ++ List.replicate 46 0 ++ [-520, -760] ++ List.replicate 15 0 ++ [-430, -640] ++ List.replicate 36 0 ++ [-350]
    ++ List.replicate 51 0
    ++ [0, 0, 40, 32, 0, 16, 12, 0, 0] ++ [2000, 2000, 1200, 1000, 1000, 200, 150, 100, 100] ++ [60, 20, 4000, 500, 150, 20]

/-- A T4 with the gains and limits that the worked cases of chapter 4 read. -/
def joint : List Int :=
  [0, 500, 1000, 2000, 3000, 4000, 5000, 6000, 8000] ++ [10, 14, 18, 28, 32, 38, 44, 52, 60]
    ++ [5000, 4500, 4000, 3500, 3000, 2500, 2000, 1500, 1000] ++ [1500, 9000, 300, 100, 100, 20, 600, 200, 500, 150, 300]

/-- The T5 of 5.1 and 6.1: reservoir, targets, kneel set of the door side, deadbands, times, loads and kneel values. -/
def height : List Int :=
  [720, 600, 760, 0, 0, 0, 0, 0, 0, 10, 60, 10, 25, 100, 1500, 4, 40, 1200, 800, 2, 900, 1300, 1600, 700, 900, 950
  , 3000, 4000, 4500, 8000, 12500, 13000, 1, 1, 1, 8, 15, 1000, 1600]

/-- The T6 of 7.1. -/
def brakes : List Int :=
  [600, 5, 282, 256, 230, 80, 95, 95, 30, 30, 30, 650, 800, 800, 300, 6, 900, 200, 50, 25, 40]

/-- One door of T7: mode, no gate, the times of 8.1, line mode, filter time 5 ms. -/
def door (mode lineMode : Int) : List Int := [mode, 0, 0, 800, 1000, 300, 2000, 3, 1, lineMode, 50]

/-- A T7 with two doors opened from the cab and two released to the passengers, the last with its line in LEVEL mode. -/
def doors : List Int := door 0 0 ++ door 0 0 ++ door 1 0 ++ door 1 1

/-- A T8 with the thresholds of chapters 1 and 3. -/
def general : List Int := [128, 0, 5] ++ List.replicate 14 1 ++ [30, 50, 60, 300, 100]

/-- A record with a fresh value. -/
def fresh (value : Int) : SigRec := { SigRec.reset with value := value, lastRaw := value, status := .fresh }

/-- The records of a standing bus: heights 0, bellows 430, reservoir 780, hold pressure 280 at the axles, doors closed. -/
def records : Vector SigRec 96 :=
  Vector.ofFn fun i : Fin 96 =>
    if i.val < 10 then fresh 0 else if i.val < 16 then fresh 430 else if i.val = 16 then fresh 780
    else if i.val < 19 then fresh 0 else if i.val < 22 then fresh 280 else if i.val < 26 then fresh 1 else SigRec.reset

/-- The T2 of the worked example of 11.6: BRAKE and DRIVE in every entry, STATUS in entry 0. -/
def schedule : List Int := [3, 10, 13, 6] ++ (List.replicate 15 [2, 10, 13]).flatten

/-- A part in CONFIG with every table in use, on a standing bus, its queue of frames sent. -/
def config : State :=
  { State.reset with
    vehicle := PortState.reset
    signals := records
    motion := { speed := 0, status := .valid, standstill := true, timer := 60 }
    doors := Vector.replicate 4 { Door.reset with state := .locked, position := .closedLocked }
    holdSet := [⟨.startup, 0⟩]
    tables := #v[bank routes, bank definitions, bank schedule, bank steering, bank joint, bank height, bank brakes, bank doors
      , bank general] }

/-- A part in RUN on a standing bus: hold CONFIRMED under the driver's claim, corners settled, loads estimated. -/
def run : State :=
  { config with
    part := .run
    cycle := 1000
    holdSet := [⟨.driver, 900⟩]
    hold := { state := .confirmed, pressure := 300, confirmTimer := 0, timeoutFlag := false }
    air := { pressure := 780, level := .normal }
    corners := Vector.replicate 6 { Corner.reset with loadPressure := some 430 }
    loads := #v[⟨6920, .estimated⟩, ⟨10660, .estimated⟩, ⟨12382, .estimated⟩]
    rear := { RearSteer.reset with state := .centering } }

/-- The run state with one door in a state. -/
def doorIn (d : Fin 4) (state : DoorState) (timer : Nat) : State :=
  { run with
    doors := run.doors.set d { Door.reset with state := state, position := .closedLocked, timer := timer }
    holdSet := [⟨.driver, 900⟩, ⟨.door d, 950⟩] }

/-- The run state with one corner's record. -/
def cornerIn (c : Fin 6) (k : Corner) : State := { run with corners := run.corners.set c k }

/-- The run state with another kneel state, timer and reservoir. -/
def kneelIn (state : KneelState) (timer : Nat) : State :=
  { run with
    kneel := { Kneel.reset with state := state, timer := timer }
    holdSet := [⟨.driver, 900⟩, ⟨.kneel, 950⟩] }

/-- A frame from a station for the part. -/
def frame (src : BitVec 6) (kind : FrameKind) (tag : BitVec 8) (seq : BitVec 4) (vals : List Int) : Frame :=
  buildFrame src 1#6 kind tag seq (vals.map toVal)

/-- The run state with one frame in a port's receive queue. -/
def arrived (p : Port) (f : Frame) : State :=
  run.setPort p { PortState.reset with
    rx := [{ frame := f, marked := false }], ctr := { PortCounters.zero with accepted := 1 } }

/-- The state that an outcome answers; the state before where it answers none. -/
def after (o : Host.Outcome State Fault Refusal) (s : State) : State :=
  match o with
  | .next t => t
  | .fault _ => s
  | .refused _ => s

/-- Tags and values of the frames that wait at the vehicle port. -/
def sent (s : State) : List (Nat × List Int) :=
  s.vehicle.tx.map (fun e => (e.frame.tag.toNat, e.frame.values.map BitVec.toInt))

/-- The fault entries, ACTIVE and PRESENT flags with them. -/
def listed (s : State) : List (FaultCode × Nat × Bool × Bool) :=
  s.faults.list.map (fun e => (e.code, e.subject, e.active, e.present))

/-! ### WellFormed refuses what no frame carries -/

/-- Station 0 is no source (R3). -/
theorem test_source_0_refused : WellFormed (.start 0#6 [0#16]) = false := by decide

/-- Station 63 is no source (R3). -/
theorem test_source_63_refused : WellFormed (.loadData 63#6 [1#16]) = false := by decide

/-- A frame carries one value at least (1.2). -/
theorem test_no_value_refused : WellFormed (.query 5#6 []) = false := by decide

/-- A frame carries six values at most (1.2). -/
theorem test_seven_values_refused : WellFormed (.loadData 5#6 (List.replicate 7 0#16)) = false := by decide

/-- Six values from station 62 are well formed (1.2). -/
theorem test_six_values_taken : WellFormed (.loadData 62#6 (List.replicate 6 0#16)) = true := by decide

/-! ### Shared operations against the worked cases -/

/-- The check value of the generator of R2 over the digits 1 to 9, as the published tables of that check give it: 29B1H. -/
theorem test_crc_digits :
    crc [0x31#8, 0x32#8, 0x33#8, 0x34#8, 0x35#8, 0x36#8, 0x37#8, 0x38#8, 0x39#8] = 0x29B1#16 := by decide +kernel

/-- A right turn at moderate speed: the worked case of 3.5. -/
theorem test_target_right_turn : mapTarget (run.param 3) 1250 1530 1400 = -795 := by decide +kernel

/-- The grid edge, a tie and the limit: the worked case of 3.5. -/
theorem test_target_edge : mapTarget (run.param 3) 3000 4800 (-1000) = -200 := by decide +kernel

/-- Service braking at 2.50 m/s²: the worked case of 7.8. -/
theorem test_pressures_service_braking :
    (resolveAxles { run with
      hold := { run.hold with state := .released, pressure := 0 }, axle := { run.axle with decel := 250 } }).axle.pressure.toList
      = [269, 311, 323] := by decide +kernel

/-- Light braking in a hold: the worked case of 7.8. -/
theorem test_pressures_in_hold :
    (resolveAxles { run with axle := { run.axle with decel := 100 } }).axle.pressure.toList = [126, 300, 300] := by
  decide +kernel

/-- The scaling of the worked example of 2.6: definition 20, and definition 22 with its skip and its clamp. -/
theorem test_scaling :
    let d20 : SigDef :=
      { role := 9, source := 20, tag := 5, position := 0, gain := 128, offset := 4, lower := -120, upper := 80
        freshness := 50, policy := 0, holdLimit := 50, default := 0 }
    let d22 : SigDef := { d20 with role := 10, position := 3, offset := 2 }
    let r : SigRec := { fresh 0 with lastSeq := 8 }
    ((sampleOutcome d20 (frame 20 .sample 5 9 [-37, 1721, 400]) r).record r).value = -15
      ∧ (sampleOutcome d22 (frame 20 .sample 5 9 [-37, 1721, 400]) r).record r = { r with shorts := 1 }
      ∧ ((sampleOutcome d22 (frame 20 .sample 5 10 [-37, 1721, 0, 400]) r).record r).value = 80
      ∧ ((sampleOutcome d22 (frame 20 .sample 5 10 [-37, 1721, 0, 400]) r).record r).skips = 1
      ∧ ((sampleOutcome d22 (frame 20 .sample 5 10 [-37, 1721, 0, 400]) r).record r).clamp = true := by decide +kernel

/-! ### One command, one step -/

/-- The 16th bad frame of the worked sequence of 1.4: score 128, LINK-C raised with subject 1. -/
theorem test_frameArrival_bad :
    let s := { run with chassis := { run.chassis with score := 120 } }
    let t := after (exec (.frameArrival .chassis [0#8, 0#8, 0#8]) s) s
    t.chassis.score = 128 ∧ t.chassis.linkFault = true ∧ t.chassis.ctr.checkErrors = 1
      ∧ listed t = [(.linkC, 1, true, true)] := by decide +kernel

/-- A sound frame is accepted and queued (R3, R5). -/
theorem test_frameArrival_sound :
    let f := frame 28 .sample 1 4 [250]
    let t := after (exec (.frameArrival .chassis f.octets) run) run
    t.chassis.rx = [{ frame := f, marked := false }] ∧ t.chassis.ctr.accepted = 1 := by decide +kernel

/-- A DRIVER-DECEL sample of 4 lies at the deadband, one of 6 outside it: the worked case of 7.8. -/
theorem test_frameHandOn_decel :
    let s4 := arrived .chassis (frame 28 .sample 1 4 [4])
    let s6 := arrived .chassis (frame 28 .sample 1 4 [6])
    let t4 := after (exec (.frameHandOn .chassis) s4) s4
    let t6 := after (exec (.frameHandOn .chassis) s6) s6
    t4.axle.decel = 0 ∧ t4.axle.driver.toList = [0, 0, 0] ∧ t6.axle.driver.toList = [36, 37, 38]
      ∧ t6.chassis.cls.consumed = 1 ∧ t6.chassis.rx = [] := by decide +kernel

/-- A QUERY of the kneel record through the bypass: the reply's tag is 102, its values the record's (2.1, 11.5). -/
theorem test_frameHandOn_query :
    let s := arrived .vehicle (frame 5 .mgmtReq 38 0 [9, 0, 0])
    let t := after (exec (.frameHandOn .vehicle) s) s
    sent t = [(102, [0, 0, 0, 0])] ∧ t.vehicle.cls.management = 1 := by decide +kernel

/-- A frame sent frees its place and is counted (R16). -/
theorem test_frameSent :
    let s := sendNotice .swapDone [511, 0] run
    let t := after (exec (.frameSent .vehicle) s) s
    t.vehicle.tx = [] ∧ t.vehicle.ctr.transmitted = 1 := by decide +kernel

/-- The first cycle start of the right turn of 3.5: the command steps from -700 to -760; the cycle number rises. -/
theorem test_cycleStart_steps :
    let s := { run with
      motion := { run.motion with standstill := false, speed := 1250 }
      rear := { run.rear with state := .active, target := -795, command := -700 } }
    let t := cycleStartIn allJobs s
    t.rear.command = -760 ∧ t.cycle = 1001 := by decide +kernel

/-- The schedule of 11.6 at a cycle number of 16: STATUS on the vehicle port, BRAKE and DRIVE on the chassis port. -/
theorem test_cycleStart_builds :
    let t := cycleStartIn allJobs { run with cycle := 15 }
    t.chassis.tx.map (fun e => e.frame.tag) = [202, 205] ∧ t.vehicle.tx.map (fun e => e.frame.tag) = [206] := by decide +kernel

/-- Cycle start 528 of the worked sequence of 1.4: score 0, flag clear, the cause ended. -/
theorem test_linkFaultHeal :
    let s := listFault .linkC 1 { run with chassis := { run.chassis with score := 1, linkFault := true } }
    let t := after (exec (.linkFaultHeal .chassis) s) s
    t.chassis.score = 0 ∧ t.chassis.linkFault = false ∧ listed t = [(.linkC, 1, false, false)] := by decide +kernel

/-- The DRIVER-DECEL station falls silent in a hold: the worked case of 7.8. -/
theorem test_signalStale_demand :
    let s := resolveAxles { run with
      signals := run.signals.set 17 { fresh 100 with age := 255 }, axle := { run.axle with decel := 100 }
      tables := run.tables.set 1 (bank (definitions.set (17 * 12 + 8) 200)) }
    let t := after (exec (.signalStale 17) s) s
    s.axle.pressure.toList = [126, 300, 300] ∧ t.axle.pressure.toList = [0, 300, 300] ∧ t.axle.decel = 0
      ∧ t.axle.backup = true ∧ t.faults.levels.brake = .safe := by decide +kernel

/-- A HELD record past both limits is LOST (R40). -/
theorem test_signalHoldExpiry :
    let s := { run with
      signals := run.signals.set 16 { fresh 780 with status := .held, age := 100 }
      tables := run.tables.set 1 (bank (((definitions.set (16 * 12 + 8) 50).set (16 * 12 + 9) 0).set (16 * 12 + 10) 50)) }
    let t := after (exec (.signalHoldExpiry 16) s) s
    (t.role .reservoir).status = .lost ∧ t.air.level = .unknown ∧ listed t = [(.reservoirLost, 0, true, true)] := by
  decide +kernel

/-- The 60th cycle at a low speed sets standstill, and a pending hold is applied (R46, R126). -/
theorem test_standstillSet :
    let s := { run with
      motion := { speed := 20, status := .valid, standstill := false, timer := 59 }
      hold := { state := .pending, pressure := 0, confirmTimer := 0, timeoutFlag := false } }
    let t := after (exec .standstillSet s) s
    t.motion.standstill = true ∧ t.motion.timer = 60 ∧ t.hold.pressure = 300 := by decide +kernel

/-- The 150th cycle of an axle that does not follow locks it: R62, the values of 3.1. -/
theorem test_rearTracking :
    let s := { run with rear := { run.rear with state := .active, command := 400, target := 400, trackTimer := 19 } }
    let t := after (exec .rearTracking s) s
    listed t = [(.rearTracking, 0, true, false)] ∧ t.rear.state = .locked ∧ t.rear.command = 400 ∧ t.rear.target = 0 := by
  decide +kernel

/-- A guard fall from level 2 to level 1 gives the level-1 torque limit and ends GUARD-2 (R73, R76). -/
theorem test_guardFall :
    let s := listFault .guard2 0 { run with
      motion := { run.motion with standstill := false, speed := 1000 }
      joint := { run.joint with guard := 2, guardTimer := 19, torque := 200 }, drive := { run.drive with torque := 200 } }
    let t := after (exec .guardFall s) s
    t.joint.guard = 1 ∧ t.joint.torque = 600 ∧ t.drive.torque = 600 ∧ listed t = [(.guard2, 0, false, false)] := by
  decide +kernel

/-- A corner that has been high for the persistence time begins to exhaust (R90). -/
theorem test_persistenceElapsed :
    let s := { cornerIn 2 { Corner.reset with height := 30, error := -30, persist := 99, dir := .down } with
      motion := { run.motion with standstill := false, speed := 2000 } }
    let t := after (exec (.persistenceElapsed 2) s) s
    (t.corner 2).valve = .exhausting ∧ (t.corner 2).runStart = 30 ∧ (t.corner 2).persist = 0 := by decide +kernel

/-- A run in its band that reaches the minimum pulse ends and settles for 40 cycles (R94). -/
theorem test_minimumPulse :
    let s := cornerIn 1 { Corner.reset with valve := .filling, error := 5, height := -5, pulse := 3, run := 3 }
    let t := after (exec (.minimumPulse 1) s) s
    (t.corner 1).valve = .hold ∧ (t.corner 1).settle = 40 := by decide +kernel

/-- A stuck fill valve is found at the 1201st cycle start of filling (R95). -/
theorem test_runTimeout :
    let s := cornerIn 3 { Corner.reset with valve := .filling, error := 20, height := -20, runStart := -20, pulse := 4, run := 1200 }
    let t := after (exec (.runTimeout 3) s) s
    (t.corner 3).frozenTimeout = true ∧ (t.corner 3).valve = .hold ∧ listed t = [(.cornerTimeout, 3, true, false)] := by
  decide +kernel

/-- The lowering timeout turns the kneel to RAISING and raises KNEEL-TIMEOUT (R110). -/
theorem test_loweringTimeout :
    let s := { kneelIn .lowering 1000 with
      signals := run.signals.set 4 (fresh (-50)), corners := run.corners.map (fun k => { k with height := -50 }) }
    let t := after (exec .loweringTimeout s) s
    t.kneel.state = .raising ∧ t.kneel.timer = 0 ∧ t.faultActive .kneelTimeout 0 := by decide +kernel

/-- The raising timeout raises KNEEL-TIMEOUT, sends KNEEL-STATE with old and new state RAISING, and keeps the state (R116). -/
theorem test_raisingTimeout :
    let s := kneelIn .raising 1600
    let t := after (exec .raisingTimeout s) s
    t.kneel.state = .raising ∧ t.kneel.timeoutFlag = true
      ∧ sent t = [(160, [1, 14, 0, 1, 1, 1]), (166, [1, 4, 4, 4, 1601])] := by decide +kernel

/-- The confirm timer past 200 raises HOLD-CONFIRM once (R128). -/
theorem test_confirmTimeout :
    let s := { run with hold := { state := .applying, pressure := 300, confirmTimer := 200, timeoutFlag := false } }
    let t := after (exec .confirmTimeout s) s
    t.hold = { state := .applying, pressure := 300, confirmTimer := 201, timeoutFlag := true }
      ∧ listed t = [(.holdConfirm, 0, true, true)] := by decide +kernel

/-- The last 25 kPa of a release ramp off, and the hold is RELEASED (R130). -/
theorem test_rampEnd :
    let s := { run with
      holdSet := [], drive := { inhibit := false, torque := 1000 }
      hold := { state := .releasing, pressure := 25, confirmTimer := 0, timeoutFlag := false } }
    let t := after (exec .rampEnd s) s
    t.hold.state = .released ∧ t.hold.pressure = 0 ∧ sent t = [(168, [1, 0, 4, 5, 0, 0])] := by decide +kernel

/-- The 40th cycle of the saturation of 7.8 raises BRAKE-SATURATED with subject 0. -/
theorem test_brakeSaturated :
    let s := { run with axle := { run.axle with driver := #v[691, 0, 0], satTimer := #v[39, 0, 0] } }
    let t := after (exec (.brakeSaturated 0) s) s
    t.axle.satTimer[0] = 40 ∧ listed t = [(.brakeSaturated, 0, true, true)] := by decide +kernel

/-- A door that does not open within 800 cycles is in FAULT (R152). -/
theorem test_openingTimeout :
    let s := doorIn 1 .opening 800
    let t := after (exec (.openingTimeout 1) s) s
    (t.door 1).state = .fault ∧ listed t = [(.doorTimeout, 2, true, true)] := by decide +kernel

/-- A door that does not close within 1000 cycles is in FAULT, and sends DOOR-STATE with cause TIMEOUT (R158, R163). -/
theorem test_closingTimeout :
    let s := doorIn 0 .closing 1000
    let t := after (exec (.closingTimeout 0) s) s
    (t.door 0).state = .fault ∧ sent t = [(160, [1, 18, 1, 0, 1, 1]), (164, [1, 1, 10, 7, 5, 1])] := by decide +kernel

/-- The warning of 300 cycles ends in CLOSING, the tone off (R157). -/
theorem test_warningEnd :
    let s := doorIn 2 .warning 299
    let t := after (exec (.warningEnd 2) s) s
    (t.door 2).state = .closing ∧ (t.door 2).tone = false := by decide +kernel

/-- The dwell of 2000 cycles ends in WARNING, the tone on (R154). -/
theorem test_dwellEnd :
    let s := doorIn 3 .openState 1999
    let t := after (exec (.dwellEnd 3) s) s
    (t.door 3).state = .warning ∧ (t.door 3).tone = true := by decide +kernel

/-- The 2000th idle cycle abandons a load and reports the pointer reached (R180). -/
theorem test_loadAbandon :
    let s := { run with
      loading := some { table := 6, overrun := false, sum := 5, idle := 1999 }
      tables := run.tables.set 6 { bank brakes with shadowState := .loading, shadow := [1, 2, 2] } }
    let t := after (exec .loadAbandon s) s
    t.loading = none ∧ (t.tab 6).shadowState = .empty ∧ sent t = [(173, [1, 6, 3])] := by decide +kernel

/-- A line that falls under ACTIVE-LOW starts its filter (R160). -/
theorem test_edgeLineChange :
    let t := after (exec (.edgeLineChange 2 false) run) run
    t.edges[2] = { high := false, filtered := false, running := true, timer := 0 } := by decide +kernel

/-- An edge reverses a closing door (R158). -/
theorem test_edgeFilterExpiry :
    let s := { doorIn 0 .closing 500 with
      edges := Vector.replicate 4 { high := true, filtered := false, running := true, timer := 49 } }
    let t := after (exec (.edgeFilterExpiry 0) s) s
    (t.door 0).state = .reversing ∧ (t.door 0).reversals = 1 ∧ t.edges[0].filtered = true := by decide +kernel

/-- Power-on with straps for station 40 (R18, R188). -/
theorem test_powerOnReset :
    let t := after (exec (.powerOnReset 40) run) run
    t.station = 40 ∧ t.part = .config ∧ sent t = [(170, [2, 0, -32768, 3])] ∧ listed t = [] := by decide +kernel

/-- Power-on with a bad strap: the worked sequence of 1.8. -/
theorem test_powerOnReset_bad_strap :
    let t := after (exec (.powerOnReset 63) run) run
    t.station = 62 ∧ listed t = [(.strap, 0, true, true)] ∧ t.faults.amber = true := by
  have h : ∀ b : Bool, Config.strapNoticeFirst 0 = b → exec (.powerOnReset 63) run = .next
      (let s := resetRecords 62 (Vector.replicate 9 Table.empty) (run.setStraps 63)
       if b then resetPartNotice .powerOn (raiseFault .strap 0 (s.setFree 1))
       else raiseFault .strap 0 (resetPartNotice .powerOn (s.setFree 1))) := by
    intro b hb
    subst hb
    rfl
  rw [h _ rfl]
  cases Config.strapNoticeFirst 0 <;> decide +kernel

/-- LOAD-BEGIN takes the shadow bank (R179). -/
theorem test_loadBegin :
    let t := after (exec (.loadBegin 5 [6]) run) run
    (t.tab 6).shadowState = .loading ∧ t.loading = some { table := 6, overrun := false, sum := 0, idle := 0 }
      ∧ sent t = [(96, [6, 0])] := by decide +kernel

/-- LOAD-DATA appends and answers with the pointer; with nothing loading it is refused NOT-LOADING (R180). -/
theorem test_loadData :
    let s := after (exec (.loadBegin 5 [6]) run) run
    let t := after (exec (.loadData 5 [600, 5, 282]) s) s
    (t.tab 6).shadow = [600, 5, 282] ∧ sent t = [(96, [6, 0]), (97, [3])]
      ∧ sent (after (exec (.loadData 5 [1]) run) run) = [(111, [33, 6])] := by decide +kernel

/-- A T6 loaded whole is COMPLETE; with a wrong count it is ERROR-COUNT (R181). -/
theorem test_loadEnd :
    let s := { run with
      loading := some { table := 6, overrun := false, sum := (brakes.map toVal).foldl (· + ·) 0, idle := 0 }
      tables := run.tables.set 6 { bank brakes with shadowState := .loading, shadow := brakes.map toVal } }
    let t := after (exec (.loadEnd 5 [21, (brakes.map toVal).foldl (· + ·) 0]) s) s
    let u := after (exec (.loadEnd 5 [20, (brakes.map toVal).foldl (· + ·) 0]) s) s
    (t.tab 6).shadowState = .complete ∧ (u.tab 6).shadowState = .errorCount ∧ t.loading = none := by decide +kernel

/-- A SWAP of T6 at standstill exchanges the banks at once; one of T0 in RUN is refused PROTECTED (R182). -/
theorem test_swap :
    let s := { run with
      tables := run.tables.set 6 { bank brakes with shadowState := .complete, shadow := (brakes.set 14 250).map toVal } }
    let t := after (exec (.swap 5 [64]) s) s
    t.param 6 14 = 250 ∧ t.hold.pressure = 250 ∧ sent (after (exec (.swap 5 [65]) s) s) = [(111, [35, 7])] := by decide +kernel

/-- The saturation timers keep their values at a swap of T6, whatever the new maximum, and at a BRAKE-ACTUAL report after it that
changes nothing of the hold (R137, R141). -/
theorem test_swap_keeps_saturation :
    let s := { run with
      axle := { run.axle with satTimer := #v[39, 0, 0] }
      tables := run.tables.set 6 { bank brakes with shadowState := .complete, shadow := (brakes.set 11 900).map toVal } }
    let t := after (exec (.swap 5 [64]) s) s
    t.axle.satTimer.toList = [39, 0, 0] ∧ (holdOnActual t).1.axle = t.axle := by decide +kernel

/-- SELECT names a table and a bank (R184). -/
theorem test_select :
    let t := after (exec (.select 5 [6, 1]) run) run
    t.cursor = some (6, .shadow) ∧ sent t = [(100, [6, 1])] := by decide +kernel

/-- READ replies under the tag of table and bank: 128 + 2 × 6 for the active T6 (11.2). -/
theorem test_read :
    let s := { run with cursor := some (6, .active) }
    sent (after (exec (.read 5 [0, 3]) s) s) = [(140, [600, 5, 282])]
      ∧ sent (after (exec (.read 5 [19, 3]) s) s) = [(111, [37, 1])] := by decide +kernel

/-- QUERY of the hold record, of a part that is not there, and of the load and cursor where both are absent (11.5, R185, R190). -/
theorem test_query :
    sent (after (exec (.query 5 [10, 0, 0]) run) run) = [(102, [3, 300, 0, 0])]
      ∧ sent (after (exec (.query 5 [10, 0, 1]) run) run) = [(111, [38, 1])]
      ∧ sent (after (exec (.query 5 [0, 0, 1]) run) run) = [(102, [9, -32768])] := by decide +kernel

/-- START from CONFIG at standstill (R186). -/
theorem test_start :
    let t := after (exec (.start 5 [0]) config) config
    t.part = .run ∧ t.hold.state = .confirmed ∧ t.claims .startup = false ∧ t.loads[0].status = .fallback := by decide +kernel

/-- STOP on a hold CONFIRMED sends two PART-STATE notices in one event (R187). -/
theorem test_stop :
    let t := after (exec (.stop 5 [0]) run) run
    t.part = .config ∧ (sent t).filter (fun f => f.1 = 170) = [(170, [1, 2, 1, 1]), (170, [1, 0, 2, 2])] := by decide +kernel

/-- HOLD-ADD adds MAINT, with the cycle number as its stamp (R119). -/
theorem test_holdAdd :
    let t := after (exec (.holdAdd 5 [0]) run) run
    t.holdSet = [⟨.driver, 900⟩, ⟨.maint, 1000⟩] ∧ sent t = [(105, [0])] := by decide +kernel

/-- HOLD-REMOVE removes MAINT alone (R119). -/
theorem test_holdRemove :
    let s := { run with holdSet := [⟨.maint, 800⟩, ⟨.driver, 900⟩] }
    (after (exec (.holdRemove 5 [0]) s) s).holdSet = [⟨.driver, 900⟩] := by decide +kernel

/-- CLEAR-FAULTS at standstill removes a latched entry whose cause has ended, with FAULT-HEALED cause CLEARED (R169). -/
theorem test_clearFaults :
    let s := { run with
      faults := FaultUnit.reset.withList [⟨.cornerTimeout, 3, true, false, 1, 7, 7⟩, ⟨.doorEmergency, 1, true, true, 2, 8, 9⟩] }
    let t := after (exec (.clearFaults 5 [0]) s) s
    listed t = [(.doorEmergency, 1, true, true)] ∧ (sent t).take 1 = [(161, [1, 11, 3, 1, 1])] := by decide +kernel

/-- CLEAR-COUNTERS marks the frames held (R27). -/
theorem test_clearCounters :
    let s := arrived .chassis (frame 28 .sample 1 4 [4])
    let t := after (exec (.clearCounters 5 [0]) s) s
    t.chassis.ctr.accepted = 0 ∧ t.chassis.rx.map RxEntry.marked = [true] := by decide +kernel

/-- RESET waits on its reply, and every request meanwhile is refused BUSY (R189). -/
theorem test_reset :
    let t := after (exec (.reset 5 [1]) run) run
    t.resetPending = some .soft ∧ t.part = .run ∧ sent t = [(109, [1])]
      ∧ sent (after (exec (.start 5 [0]) t) t) = [(109, [1]), (111, [39, 4])] := by decide +kernel

/-- A release at standstill with the hold CONFIRMED opens a cab door and releases a passenger door (R150). -/
theorem test_doorRelease :
    let t := after (exec (.doorRelease 6) run) run
    (t.door 1).state = .opening ∧ (t.door 2).state = .released ∧ (t.door 0).state = .locked
      ∧ t.claims (.door 1) = true ∧ t.claims (.door 2) = true := by decide +kernel

/-- A release is refused NOT-RUN in STOPPING; on a bus above the pre-release speed with reason SPEED, and with its speed LOST with
SPEED-UNKNOWN, for the LOCKED doors alone and in their order (R148). -/
theorem test_doorRelease_refused :
    let s := { doorIn 1 .openState 5 with motion := { speed := 301, status := .valid, standstill := false, timer := 0 } }
    let t := after (exec (.doorRelease 7) s) s
    t.doors = s.doors ∧ sent t = [(165, [1, 0, 1, 2, 301]), (165, [1, 0, 3, 2, 301])]
      ∧ sent (after (exec (.doorRelease 1) { s with motion := Motion.reset }) s) = [(165, [1, 0, 1, 3, 0])]
      ∧ sent (after (exec (.doorRelease 6) { s with part := .stopping }) s)
        = [(165, [1, 0, 2, 1, 301]), (165, [1, 0, 3, 1, 301])] := by decide +kernel

/-- A close of a RELEASED door locks it and drops its claim (R153). -/
theorem test_doorClose :
    let s := doorIn 2 .released 10
    let t := after (exec (.doorClose 4) s) s
    (t.door 2).state = .locked ∧ t.claims (.door 2) = false := by decide +kernel

/-- A kneel accepted on a CONFIRMED hold lowers at once (R107, R108). -/
theorem test_kneelLower :
    let t := after (exec .kneelLower run) run
    t.kneel.state = .lowering ∧ t.claims .kneel = true ∧ (t.corner 1).target = -60 ∧ (t.corner 0).target = 0 := by decide +kernel

/-- Below the kneel permit the request is refused with reason AIR (R107). -/
theorem test_kneelLower_air :
    let s := { run with air := { pressure := 759, level := .normal } }
    let t := after (exec .kneelLower s) s
    t.kneel.lastRefusal = .air ∧ t.kneel.state = .level ∧ sent t = [(167, [1, 7, 0, 0, 759])] := by decide +kernel

/-- A raise asked in KNELT: class 1 on the kneel corners (R111, R86). -/
theorem test_kneelRaise :
    let s := { kneelIn .knelt 0 with corners := run.corners.map (fun k => { k with height := -60, target := -60 }) }
    let t := after (exec .kneelRaise s) s
    t.kneel.state = .raising ∧ (t.corner 1).cls = .one ∧ (t.corner 1).target = 0 := by decide +kernel

/-- The driver's hold while rolling waits in PENDING (R121). -/
theorem test_driverHoldOn :
    let s := { run with
      motion := { speed := 500, status := .valid, standstill := false, timer := 0 }
      holdSet := [], drive := { inhibit := false, torque := 1000 }
      hold := { state := .released, pressure := 0, confirmTimer := 0, timeoutFlag := false } }
    let t := after (exec .driverHoldOn s) s
    t.hold.state = .pending ∧ t.drive.inhibit = true ∧ t.holdSet = [⟨.driver, 1000⟩] := by decide +kernel

/-- The last claim removed with no drive asked keeps the hold CONFIRMED and frees the drive (R125, R133). -/
theorem test_driverHoldOff :
    let t := after (exec .driverHoldOff run) run
    t.holdSet = [] ∧ t.hold.state = .confirmed ∧ t.drive.inhibit = false := by decide +kernel

/-- A queue of two commands is taken from its front, and an empty queue idles. -/
theorem test_step_front :
    (after (step { run with pending := [.driverHoldOff, .driverHoldOn] }) run).pending = [.driverHoldOn]
      ∧ after (step run) config = run := by decide +kernel

/-- No row of the table has bits, so no word spells a command. -/
theorem test_decode_none : decodeTableWord 16 0x1234 = none := by decide

/-! ### Witnesses: states and operands that meet the hypotheses of each statement, clause by clause -/

/-- A port with one frame to hand on under routes with one action, with masks for its gate. -/
def routed (action requireTrue : Int) (kind : FrameKind) : State :=
  { arrived .chassis (frame 20 kind 5 1 [7]) with
    tables := run.tables.set 0 (bank [2, kind.code, 0, 0, 255, action, requireTrue, 0]) }

/-- The entry of `routed`. -/
def routedEntry (action requireTrue : Int) (kind : FrameKind) : RouteEntry :=
  { ingress := 2, kind := kind.code, source := 0, tagLow := 0, tagHigh := 255, action := action
    requireTrue := toVal requireTrue, requireFalse := 0 }

/-- The received frame of `routed`. -/
def routedFrame (kind : FrameKind) : RxEntry := { frame := frame 20 kind 5 1 [7], marked := false }

/-- A state with one frame in the chassis port's receive queue. -/
def taking (s : State) (f : Frame) : State :=
  s.setPort .chassis { PortState.reset with
    rx := [{ frame := f, marked := false }], ctr := { PortCounters.zero with accepted := 1 } }

/-- The reports of that frame, a SAMPLE that is consumed. -/
def reports (s : State) (f : Frame) : List SigReport := reportsOf ((taking s f).sampleChanges f)

/-- The state before a reader acts on them. -/
def stored (s : State) (f : Frame) : State :=
  ((taking s f).setPort .chassis (((taking s f).port .chassis).consumed { frame := f, marked := false } [])).store
    ((taking s f).sampleChanges f)

/-- The state that its hand-on answers. -/
def taken (s : State) (f : Frame) : State := after (exec (.frameHandOn .chassis) (taking s f)) (taking s f)

/-- The frame's hand-on is a batch of reports. -/
abbrev Takes (s : State) (f : Frame) : Prop :=
  Reported (taking s f) (.frameHandOn .chassis) (reports s f) (stored s f)

/-- The frame is a SAMPLE that meets CONSUME first. -/
abbrev Consumable (s : State) (f : Frame) : Prop :=
  f.kind = .sample ∧ s.tableValid 0 = true
    ∧ ((routeEntries (s.tab 0).active).find? (fun a => a.matchesFrame .chassis f)).map RouteEntry.action = some 0

theorem takes_consumes (s : State) (f : Frame) (h : Consumable s f) : (taking s f).consumes .chassis f :=
  ⟨h.1, h.2.1, Option.map_eq_some_iff.1 h.2.2⟩

theorem takes_all (l : List (State × Frame)) (h : ∀ p ∈ l, Consumable p.1 p.2) : ∀ p ∈ l, Takes p.1 p.2 := fun p hp =>
  .sample .chassis { frame := p.2, marked := false } [] rfl (takes_consumes _ _ (h p hp))

/-- A state with one record FRESH at age 50 and its definition stale after 50 cycles, under a stale policy. -/
def aging (i : Fin 96) (policy : Int) (s : State) : State :=
  { s with
    signals := s.signals.set i { s.signals[i] with status := .fresh, age := 50 }
    tables := s.tables.set 1 (bank (((definitions.set (12 * i.val + 8) 50).set (12 * i.val + 9) policy).set (12 * i.val + 10) 50)) }

/-- The reports when that record goes stale. -/
def staleReports (s : State) (i : Fin 96) : List SigReport :=
  match s.sigDefs[i.val]? with
  | some d => reportsOf [ageChange s d i.val]
  | none => []

/-- The state before a reader acts on them. -/
def staleStored (s : State) (i : Fin 96) : State :=
  match s.sigDefs[i.val]? with
  | some d => s.store [ageChange s d i.val]
  | none => s

/-- The state that SIGNAL_STALE answers. -/
def staled (s : State) (i : Fin 96) : State := after (exec (.signalStale i) s) s

/-- SIGNAL_STALE of the record is a batch of reports. -/
abbrev GoesStale (s : State) (i : Fin 96) : Prop := Reported s (.signalStale i) (staleReports s i) (staleStored s i)

/-- The record is FRESH and its count makes it stale. -/
abbrev Due (s : State) (i : Fin 96) : Prop :=
  s.signals[i].status = .fresh ∧ (s.sigDefs[i.val]?).any (fun d => decide ((s.signals[i].aged d).status ≠ .fresh)) = true

theorem goes_stale (s : State) (i : Fin 96) (h : Due s i) : GoesStale s i := by
  unfold GoesStale staleReports staleStored
  cases hd : s.sigDefs[i.val]? with
  | none => simp [Due, hd] at h
  | some d => exact .stale i d hd h.1 (by simpa [hd] using h.2)

theorem stale_all (l : List (State × Fin 96)) (h : ∀ p ∈ l, Due p.1 p.2) : ∀ p ∈ l, GoesStale p.1 p.2 :=
  fun p hp => goes_stale _ _ (h p hp)

theorem goes_lost (s : State) (i : Fin 96) (h : s.signals[i].status = .held
    ∧ (s.sigDefs[i.val]?).any (fun d => decide ((s.signals[i].aged d).status = .lost)) = true) :
    Reported s (.signalHoldExpiry i) (staleReports s i) (staleStored s i) := by
  unfold staleReports staleStored
  cases hd : s.sigDefs[i.val]? with
  | none => simp [hd] at h
  | some d => exact .expiry i d hd h.1 (by simpa [hd] using h.2)

theorem witness_StepIdleCountsFilters :
    let s := { run with edges := Vector.replicate 4 { high := false, filtered := false, running := true, timer := 48 } }
    s.pending = [] ∧ ∀ d : Fin 4, s.tableValid 7 = true → s.edges[d].running = true →
      ((s.edges[d].timer + 1 : Nat) : Int) < s.param 7 (11 * d.val + 10) := by decide +kernel

theorem witness_PowerOnResets :
    ((1#6 ≠ 0#6 ∧ 1#6 ≠ 63#6) ∧ (62#6 ≠ 0#6 ∧ 62#6 ≠ 63#6)) ∧ (0#6 = 0#6 ∨ 0#6 = 63#6) ∧ (63#6 = 0#6 ∨ 63#6 = 63#6) := by decide

/-- The run state with an accepted RESET at the head of the vehicle port's queue. -/
def resetting (k : ResetKind) : State :=
  { run with
    resetPending := some k
    vehicle := { PortState.reset with tx := [{ frame := resetNotice, cls := .own, resetReply := true }] } }

theorem witness_FrameRoundTrip :
    let f := frame 62 .notice 255 15 [-32768]
    let g := { frame 1 .sample 0 0 [1, 2, 3, 4, 5, 32767] with dst := 63 }
    (f.src ≠ 0#6 ∧ f.src ≠ 63#6 ∧ f.dst ≠ 0#6 ∧ 1 ≤ f.values.length ∧ f.values.length ≤ 6
        ∧ f.check = crc (bodyOctets f.src f.dst f.kind f.tag f.seq f.values))
      ∧ g.src ≠ 0#6 ∧ g.src ≠ 63#6 ∧ g.dst ≠ 0#6 ∧ 1 ≤ g.values.length ∧ g.values.length ≤ 6 := by decide +kernel

theorem witness_FrameArrivalJudged :
    let f := frame 20 .sample 5 1 [7]
    let low := { run with chassis := { run.chassis with score := 119 } }
    let high := { run with chassis := { run.chassis with score := 120 } }
    (checkOk f.octets = true ∧ parseFrame f.octets = some f)
      ∧ (checkOk [0#8, 0#8, 0#8] = false ∧ (low.port .chassis).linkFault = false
        ∧ ((min 255 ((low.port .chassis).score + 8) : Nat) : Int) < low.param 8 0)
      ∧ ((high.port .chassis).linkFault = false
        ∧ high.param 8 0 ≤ ((min 255 ((high.port .chassis).score + 8) : Nat) : Int)
        ∧ high.FaultsSound ∧ high.faults.list.length < 32) := by decide +kernel

theorem witness_HandOnBypassAndUnrouted :
    let query : RxEntry := { frame := frame 5 .mgmtReq 38 0 [9, 0, 0], marked := false }
    let unknown : RxEntry := { frame := frame 5 .mgmtReq 46 0 [0], marked := false }
    let empty := { routed 4 0 .sample with tables := run.tables.set 0 Table.empty }
    (((arrived .vehicle query.frame).port .vehicle).rx = [query] ∧ query.frame.kind = .mgmtReq
        ∧ query.frame.dst = (arrived .vehicle query.frame).station
        ∧ requestOf query.frame.src query.frame.values query.frame.tag.toNat = some (.query 5 [9, 0, 0])
        ∧ requestOk query.frame.src query.frame.values = true)
      ∧ (unknown.frame.dst = run.station ∧ requestOf unknown.frame.src unknown.frame.values unknown.frame.tag.toNat = none)
      ∧ ((empty.port .chassis).rx = [routedFrame .sample] ∧ (routedFrame .sample).frame.kind ≠ .mgmtReq
        ∧ empty.tableValid 0 = false)
      ∧ ∀ r ∈ routeEntries ((routed 4 0 .command).tab 0).active,
          r.matchesFrame .chassis (routedFrame .sample).frame = false := by decide +kernel

/-- FORWARD; FORWARD-IF with Q1 STANDSTILL asked true, and with Q5 KNELT asked true. -/
theorem witness_HandOnForwardedOrDropped :
    (((routeEntries ((routed 2 0 .notice).tab 0).active).find?
        (fun a => a.matchesFrame .chassis (routedFrame .notice).frame) = some (routedEntry 2 0 .notice)
      ∧ (routedEntry 2 0 .notice).action = 2)
    ∧ ((routeEntries ((routed 3 2 .notice).tab 0).active).find?
        (fun a => a.matchesFrame .chassis (routedFrame .notice).frame) = some (routedEntry 3 2 .notice)
      ∧ ∀ k : Fin 16, ((routedEntry 3 2 .notice).requireTrue.getLsbD k.val = true → predicate (routed 3 2 .notice) k.val = true)
        ∧ ((routedEntry 3 2 .notice).requireFalse.getLsbD k.val = true → predicate (routed 3 2 .notice) k.val = false))
    ∧ ((routeEntries ((routed 3 32 .notice).tab 0).active).find?
        (fun a => a.matchesFrame .chassis (routedFrame .notice).frame) = some (routedEntry 3 32 .notice)
      ∧ (routedEntry 3 32 .notice).requireTrue.getLsbD 5 = true ∧ predicate (routed 3 32 .notice) 5 = false))
    ∧ ((routed 4 0 .sample).tableValid 0 = true ∧ (routedFrame .sample).frame.kind ≠ .mgmtReq
      ∧ (routeEntries ((routed 4 0 .sample).tab 0).active).find?
        (fun a => a.matchesFrame .chassis (routedFrame .sample).frame) = some (routedEntry 4 0 .sample)
      ∧ (routedEntry 4 0 .sample).action = 4) := by
  decide +kernel

theorem witness_HandOnRequested :
    let e : RxEntry := { frame := frame 5 .request 21 0 [0], marked := false }
    let s := arrived .vehicle e.frame
    let r : RouteEntry :=
      { ingress := 2, kind := 1, source := 0, tagLow := 0, tagHigh := 255, action := 1, requireTrue := 0, requireFalse := 0 }
    ((s.port .vehicle).rx = [e] ∧ e.frame.kind = .request ∧ s.tableValid 0 = true
        ∧ (routeEntries (s.tab 0).active).find? (fun a => a.matchesFrame .vehicle e.frame) = some r ∧ r.action = 1
        ∧ cabOf e.frame.values e.frame.tag.toNat = some .driverHoldOff)
      ∧ cabOf [0] 22 = none
      ∧ (routeEntries ((routed 1 0 .sample).tab 0).active).find?
          (fun a => a.matchesFrame .chassis (routedFrame .sample).frame) = some (routedEntry 1 0 .sample) := by decide +kernel

/-- A notice that meets CONSUME; a reservoir sample that is consumed; a record that goes stale, and one whose hold ends. -/
theorem witness_SamplesReported :
    let f := frame 27 .sample 1 4 [599]
    let held := { aging 16 0 run with signals := run.signals.set 16 { fresh 780 with status := .held, age := 100 } }
    (∀ p ∈ [(run, f)], Takes p.1 p.2) ∧ (∀ p ∈ [(aging 16 2 run, (16 : Fin 96))], GoesStale p.1 p.2)
      ∧ Reported held (.signalHoldExpiry 16) (staleReports held 16) (staleStored held 16)
      ∧ (taking run f).consumes .chassis f
      ∧ ((routeEntries ((routed 0 0 .notice).tab 0).active).find?
          (fun a => a.matchesFrame .chassis (routedFrame .notice).frame) = some (routedEntry 0 0 .notice)
        ∧ (routedEntry 0 0 .notice).action = 0 ∧ (routedFrame .notice).frame.kind ≠ .sample
        ∧ (taking run f).chassis.rx = [{ frame := f, marked := false }] ∧ ((taking run f).tab 1).pendingSwap = false
        ∧ reports run f = [{ role := .reservoir, accepted := true, was := true }]
        ∧ (run.sigDefs[16]?).any (fun d => decide (Role.ofCode d.role = some .reservoir)
            && (sampleOutcome d f run.signals[16]).isAccepted) = true
        ∧ staleReports held 16 = [{ role := .reservoir, accepted := false, was := true }]
        ∧ (staleStored held 16).signals[16].status ≠ held.signals[16].status) :=
  ⟨takes_all _ (by decide +kernel), stale_all _ (by decide +kernel), goes_lost _ _ (by decide +kernel)
    , takes_consumes _ _ (by decide +kernel), by decide +kernel⟩

/-- A soft and a hard reset waiting on its reply, a soft one with PART-STATE not sent (class 0), and a frame with no reset waiting. -/
theorem witness_FrameSentTaken :
    (let e : TxEntry := { frame := resetNotice, cls := .own, resetReply := true }
    (((resetting .soft).port .vehicle).tx = [e] ∧ e.resetReply = true ∧ (resetting .soft).resetPending = some .soft)
      ∧ ((resetting .hard).port .vehicle).tx = [e] ∧ (resetting .hard).resetPending = some .hard)
    ∧ (((sendNotice .swapDone [511, 0] run).port .vehicle).tx ≠ []
      ∧ (sendNotice .swapDone [511, 0] run).resetPending = none)
    ∧ ((resetting .soft).tableValid 8 = true ∧ (resetting .soft).param 8 13 = 1
      ∧ (let quiet := { resetting .soft with tables := run.tables.set 8 (bank (general.set 13 0)) }
        quiet.resetPending = some .soft ∧ quiet.tableValid 8 = true ∧ quiet.param 8 13 = 0)) := by
  decide +kernel

/-- A definition for station 20 and tag 5. -/
def definition : SigDef :=
  { role := 9, source := 20, tag := 5, position := 1, gain := 128, offset := 4, lower := -120, upper := 80, freshness := 50
    policy := 0, holdLimit := 50, default := 0 }

theorem witness_SampleJudged :
    let f := frame 20 .sample 5 8 [1, -32768]
    (definition.source = f.src.toNat ∧ definition.tag = f.tag.toNat ∧ f.values[definition.position.toNat]? = some 0x8000#16)
      ∧ (frame 20 .sample 5 8 [1]).values[definition.position.toNat]? = none
      ∧ ((fresh 0).status ≠ .never ∧ f.seq ≠ (fresh 0).lastSeq) ∧ f.seq = ({ fresh 0 with lastSeq := 8 } : SigRec).lastSeq
      ∧ (0x8000#16).toInt = -32768 ∧ (0x8001#16).toInt ≠ -32768 := by decide +kernel

/-- The run state with a load of T6 under way. -/
def loading (idle : Nat) : State :=
  { run with
    loading := some { table := 6, overrun := false, sum := 5, idle := idle }
    tables := run.tables.set 6 { bank brakes with shadowState := .loading, shadow := [1, 2, 2] } }

/-- The run state on a moving bus. -/
def rolling (speed : Int) : State := { run with motion := { speed := speed, status := .valid, standstill := false, timer := 0 } }

/-- Each port's score with and without the link fault; a record in each status and at each policy; a load one cycle short of its end
and two. -/
theorem witness_LinksStoreAndLoadCounted :
    let heal := { run with vehicle := { run.vehicle with score := 1, linkFault := true } }
    let high := { run with chassis := { run.chassis with score := 2, linkFault := true } }
    let held := { aging 16 0 run with signals := run.signals.set 16 { fresh 780 with status := .held, age := 100 } }
    let stale := fun (policy : Int) (limit : Nat) => (run.sigDefs[16]?).any (fun d =>
      decide ((({ fresh 780 with age := 50 } : SigRec).aged { d with freshness := 50, policy := policy, holdLimit := limit }).status
        ≠ .fresh))
    (run.vehicle.linkFault = false ∧ heal.vehicle.linkFault = true ∧ heal.vehicle.score ≤ 1
        ∧ high.chassis.linkFault = true ∧ 1 < high.chassis.score)
      ∧ ((run.tab 1).pendingSwap = false ∧ run.sigDefs[95]? = none ∧ run.signals[30].status = .never ∧ run.sigDefs[30]? ≠ none
        ∧ stale 1 50 = true ∧ stale 2 50 = true ∧ stale 0 0 = true ∧ stale 0 1 = true
        ∧ held.signals[16].status = .held ∧ (held.sigDefs[16]?).any (fun d => decide (d.freshness + d.holdLimit < 101)) = true
        ∧ run.signals[16].status ≠ .never)
      ∧ (∀ i : Fin 96, (run.sigDefs[i.val]?).all (fun d =>
          decide ((run.signals[i].aged d).status = run.signals[i].status)) = true)
      ∧ run.TablesSound
      ∧ (run.loading = none ∧ (loading 1998).loading.map Loading.idle = some 1998
        ∧ (loading 1999).loading.map Loading.idle = some 1999) := by
  refine ⟨by decide +kernel, by decide +kernel, by decide +kernel, by decide +kernel, by decide +kernel⟩

/-- A guard at a level whose timer stands at a count, at an angle. -/
def guarding (level timer : Nat) (angle : Int) : State :=
  { rolling 1000 with
    joint := { run.joint with guard := level, guardTimer := timer }, signals := run.signals.set 1 (fresh angle) }

/-- The standstill timer in each of its four cases, the rear axle PARKED, not tracking, tracking, LOCKED and lost, the step in
ACTIVE and in CENTERING within the rate and past it, and the guard's four cases. -/
theorem witness_GearCounted :
    let slow := fun timer : Nat =>
      ({ run with motion := { speed := 30, status := .valid, standstill := false, timer := timer } } : State)
    let rear := fun (state : RearState) (command target : Int) (timer : Nat) =>
      ({ run with rear := { run.rear with state := state, command := command, target := target, trackTimer := timer } } : State)
    let safe := listFault .rearTracking 0 (rear .locked 400 0 0)
    let lost := { rear .active 400 0 5 with signals := run.signals.set 2 SigRec.reset }
    (run.motion.standstill = true ∧ (rolling 31).motion.standstill = false ∧ ¬ (rolling 31).motion.speed ≤ (rolling 31).param 8 17
        ∧ (slow 58).tableValid 8 = true ∧ (slow 58).motion.speed ≤ (slow 58).param 8 17
        ∧ (((slow 58).motion.timer + 1 : Nat) : Int) < (slow 58).param 8 19
        ∧ (slow 59).param 8 19 ≤ (((slow 59).motion.timer + 1 : Nat) : Int))
      ∧ (config.rear.state = .parked ∧ run.FaultsSound
        ∧ (safe.FaultsSound ∧ safe.faults.levels.steering = .safe ∧ safe.rear.state = .locked)
        ∧ lost.usable .rearActual = false
        ∧ ¬ run.param 3 201 < mag ((rear .active 150 0 5).value .rearActual - (rear .active 150 0 5).rear.command)
        ∧ run.param 3 201 < mag ((rear .active 151 0 18).value .rearActual - (rear .active 151 0 18).rear.command)
        ∧ (((rear .active 151 0 18).rear.trackTimer + 1 : Nat) : Int) < run.param 3 202
        ∧ mag ((0 : Int) - 60) ≤ run.param 3 197 ∧ run.param 3 197 < mag ((0 : Int) - 61)
        ∧ (run.rear.state = .centering ∧ run.faults.levels.steering ≠ .reduced))
      ∧ (guardWatches run = false
        ∧ (guardWatches (guarding 1 5 3900) = true ∧ guardFalls (guarding 1 5 3900) 1 = false)
        ∧ (guardFalls (guarding 1 18 3899) 1 = true ∧ ((18 + 1 : Nat) : Int) < run.param 4 32)
        ∧ (guardFalls (guarding 2 19 4199) 2 = true ∧ run.param 4 32 ≤ ((19 + 1 : Nat) : Int))) := by decide +kernel

/-- A corner in each of its cases on a standing and on a moving bus, and the kneel's timer in its four. -/
theorem witness_CornersAndKneelCounted :
    let moving := fun (c : Fin 6) (k : Corner) => ({ cornerIn c k with motion := (rolling 2000).motion } : State)
    let low := fun (error : Int) (persist : Nat) (dir : PersistDir) =>
      moving 2 { Corner.reset with height := -error, error := error, persist := persist, dir := dir, settle := 1 }
    let runs := fun (valve : Valve) (error : Int) (pulse run : Nat) =>
      cornerIn 1 { Corner.reset with valve := valve, error := error, height := -error, pulse := pulse, run := run }
    run.LatchedActive ∧ (config.part = .config ∧ run.part ≠ .config)
      ∧ ((run.corner 0).valve = .hold ∧ run.motion.standstill = true)
      ∧ ((low 25 7 .up).motion.standstill = false ∧ suspended (low 25 7 .up) = false ∧ ((low 25 7 .up).corner 2).frozen = false
        ∧ movingDir (run.param 5 12) 25 = .none)
      ∧ (movingDir (run.param 5 12) 26 = .up ∧ ((98 + 1 : Nat) : Int) < run.param 5 13
        ∧ run.param 5 13 ≤ ((99 + 1 : Nat) : Int) ∧ movingDir (run.param 5 12) (-26) = .down)
      ∧ (let s := { low 26 7 .up with signals := run.signals.set 17 (fresh 100), axle := { run.axle with decel := 100 } }
         suspended s = true ∧ (s.corner 2).cls = .two ∧ (s.corner 2).valve = .hold)
      ∧ (1 ≤ run.param 5 16 ∧ 0 ≤ run.param 5 15 ∧ suspended run = false
        ∧ (((runs .filling 5 3 3).corner 1).frozen = false ∧ run.param 5 15 ≤ ((min (run.param 5 15).toNat (3 + 1) : Nat) : Int)
          ∧ (5 : Int) ≤ run.param 5 11 / 2)
        ∧ ¬ run.param 5 15 ≤ ((min (run.param 5 15).toNat (2 + 1) : Nat) : Int)
        ∧ ¬ (6 : Int) ≤ run.param 5 11 / 2 ∧ ((1199 + 1 : Nat) : Int) ≤ run.param 5 17
        ∧ ((799 + 1 : Nat) : Int) ≤ run.param 5 18)
      ∧ (run.kneel.state = .level
        ∧ (((kneelIn .lowering 999).kneel.timer + 1 : Nat) : Int) ≤ run.param 5 37
        ∧ run.param 5 37 < (((kneelIn .lowering 1000).kneel.timer + 1 : Nat) : Int)
        ∧ (((kneelIn .raising 1599).kneel.timer + 1 : Nat) : Int) ≤ run.param 5 38
        ∧ run.param 5 38 < (((kneelIn .raising 1600).kneel.timer + 1 : Nat) : Int)) := by decide +kernel

/-- The hold in each state at each side of its limit, an axle at its maximum and past it, and a door in each state that counts, a
cycle short of its time and at it. -/
theorem witness_HoldAxlesAndDoorsCounted :
    let hold := fun (state : HoldState) (p : Int) (timer : Nat) =>
      ({ run with hold := { state := state, pressure := p, confirmTimer := timer, timeoutFlag := false } } : State)
    let axle := fun (p : Int) (timer : Nat) =>
      ({ run with axle := { run.axle with driver := #v[p, 0, 0], satTimer := #v[timer, 0, 0] } } : State)
    run.LatchedActive ∧ config.part = .config ∧ run.part ≠ .config
      ∧ (run.hold.state = .confirmed
        ∧ (((hold .applying 300 199).hold.confirmTimer + 1 : Nat) : Int) ≤ run.param 6 17
        ∧ run.param 6 17 < (((hold .applying 300 200).hold.confirmTimer + 1 : Nat) : Int)
        ∧ run.param 6 19 < (hold .releasing 26 0).hold.pressure ∧ (hold .releasing 25 0).hold.pressure ≤ run.param 6 19)
      ∧ ((axle 651 39).param 6 11 < (axle 651 39).axle.driver[0] ∧ (((axle 651 39).axle.satTimer[0] + 1 : Nat) : Int) = run.param 6 20
        ∧ run.faults.list.length ≤ 29 ∧ (axle 650 39).axle.driver[0] ≤ run.param 6 11)
      ∧ ((run.motion.standstill = true ∧ run.hold.state = .confirmed)
        ∧ (((doorIn 1 .opening 799).door 1).timer + 1 : Nat) ≤ run.param 7 14
        ∧ run.param 7 14 < (((doorIn 1 .reversing 800).door 1).timer + 1 : Nat)
        ∧ ¬ ({ doorIn 1 .opening 5 with hold := (hold .applying 300 0).hold } : State).hold.state = .confirmed
        ∧ (run.param 7 39 ≠ 0 ∧ (((doorIn 3 .openState 5).door 3).reversals : Int) < run.param 7 40
          ∧ ((doorIn 3 .openState 5).door 3).closeDeferred = false)
        ∧ (((doorIn 3 .openState 1998).door 3).timer + 1 : Nat) < run.param 7 39
        ∧ run.param 7 39 ≤ (((doorIn 3 .openState 1999).door 3).timer + 1 : Nat)
        ∧ (((doorIn 1 .warning 298).door 1).timer + 1 : Nat) < run.param 7 16
        ∧ run.param 7 16 ≤ (((doorIn 1 .warning 299).door 1).timer + 1 : Nat)
        ∧ (((doorIn 1 .closing 999).door 1).timer + 1 : Nat) ≤ run.param 7 15
        ∧ run.param 7 15 < (((doorIn 1 .closing 1000).door 1).timer + 1 : Nat)
        ∧ gateOf (doorIn 1 .releaseWait 0) 1 = true
        ∧ gateOf { doorIn 1 .releaseWait 0 with
            tables := run.tables.set 7 (bank (doors.set 12 32)) } 1 = false) := by
  decide +kernel

/-- The lists of the schedule of 11.6, entry by entry, as the T2 of the run state spells them. -/
theorem witness_ScheduleBuilt :
    let lists : List (List (Port × CmdRec)) :=
      [(.chassis, .brake), (.chassis, .drive), (.vehicle, .status)]
        :: List.replicate 15 [(.chassis, .brake), (.chassis, .drive)]
    config.part = .config ∧ run.part ≠ .config ∧ lists.length = 16 ∧ (∀ l ∈ lists, l.length ≤ 6) ∧ run.tableValid 2 = true
      ∧ (run.tab 2).active
        = lists.flatMap (fun l => toVal l.length :: l.map (fun i => toVal (8 * portIndex i.1 + i.2.index.val))) := by
  decide +kernel

/-- The command records of 11.3: commands of four door states, the tone of door 3 in the mask, the valve commands, and STATUS with its
mask 1 + 8, the hold state 3 × 16 + 2 claims, and the kneel state 3 × 64. -/
theorem test_commandRecords :
    let tone := { doorIn 2 .warning 0 with
      doors := (doorIn 2 .warning 0).doors.set 2 { (doorIn 2 .warning 0).door 2 with tone := true } }
    let valves := { run with
      corners := #v[{ Corner.reset with valve := .hold }, { Corner.reset with valve := .waitFill }
        , { Corner.reset with valve := .filling }, { Corner.reset with valve := .exhausting }, Corner.reset, Corner.reset] }
    (recordValues .door (doorIn 1 .opening 0)) = [0, 2, 0, 0, 0] ∧ (recordValues .door (doorIn 1 .released 0)) = [0, 1, 0, 0, 0]
      ∧ (recordValues .door (doorIn 1 .closing 0)) = [0, 3, 0, 0, 0] ∧ (recordValues .door (doorIn 1 .emergency 0)) = [0, 4, 0, 0, 0]
      ∧ recordValues .door tone = [0, 0, 0, 0, 4] ∧ recordValues .height valves = [0, 0, 1, 2, 0, 0]
      ∧ recordValues .rearSteer { run with rear := { run.rear with state := .frozen, command := -40 } } = [-40, 1, 4]
      ∧ recordValues .status (kneelIn .knelt 0) = [1, 0, 1 + 8 + 16, 50, 192, 0] := by decide +kernel

/-- A FRESH record whose age reaches 51 at a freshness limit of 50, and a HELD one whose age reaches 101. -/
theorem witness_LinkHealsAndSignalsAge :
    (let s := listFault .linkV 0 { run with vehicle := { run.vehicle with score := 1, linkFault := true } }
    (s.port .vehicle).linkFault = true ∧ (s.port .vehicle).score ≤ 1 ∧ s.FaultsSound ∧ s.faultActive .linkV 0)
    ∧ (let table := run.tables.set 1 (bank ((definitions.set 8 50).set 10 50))
    let s := { run with tables := table, signals := run.signals.set 0 { fresh 0 with age := 50 } }
    let t := { run with tables := table, signals := run.signals.set 0 { fresh 0 with age := 100, status := .held } }
    let d : SigDef :=
      { role := 1, source := 11, tag := 1, position := 0, gain := 256, offset := 0, lower := -4500, upper := 4500
        freshness := 50, policy := 2, holdLimit := 50, default := 0 }
    s.sigDefs[0]? = some d ∧ (s.tab 1).pendingSwap = false ∧ s.signals[0].status = .fresh ∧ d.freshness < 51
      ∧ t.sigDefs[0]? = some d ∧ t.signals[0].status = .held ∧ d.freshness + d.holdLimit < 101) := by
  decide +kernel

/-- The standstill timer one short in CONFIG and in RUN; a PENDING hold confirmed at once and short of it, in RUN and in STOPPING; a
RELEASING one with the drive asked and not; a pending release; a door in RELEASE-WAIT, the hold CONFIRMED and not. -/
theorem witness_StandstillIsSet :
    let m : Motion := { speed := 30, status := .valid, standstill := false, timer := 59 }
    let s := { config with motion := m }
    let t := { run with motion := m }
    let hold := fun state : HoldState => ({ t with hold := { run.hold with state := state, pressure := 100 } } : State)
    let short := { hold .pending with signals := run.signals.set 20 (fresh 269) }
    let asked := { hold .releasing with signals := run.signals.set 18 (fresh 50) }
    let door := { t with doors := run.doors.set 1 { (run.door 1) with pendingRelease := true } }
    let waits := { t with doors := (doorIn 2 .releaseWait 0).doors, holdSet := (doorIn 2 .releaseWait 0).holdSet }
    let early := { waits with hold := short.hold, signals := short.signals }
    (s.tableValid 8 = true ∧ s.motion.speed ≤ s.param 8 17 ∧ s.param 8 19 ≤ ((s.motion.timer + 1 : Nat) : Int)
        ∧ (s.tab 1).pendingSwap = false ∧ s.part = .config ∧ s.rear.state = .parked)
      ∧ (t.tableValid 8 = true ∧ t.motion.speed ≤ t.param 8 17 ∧ t.param 8 19 ≤ ((t.motion.timer + 1 : Nat) : Int)
        ∧ (t.tab 1).pendingSwap = false ∧ t.part ≠ .config ∧ (∀ x : Fin 9, (t.tab x).pendingSwap = false)
        ∧ t.kneel.state ≠ .waitHold ∧ ∀ d : Fin 4, (t.door d).pendingRelease = false)
      ∧ (confirmMet (hold .pending) = true ∧ (after (exec .standstillSet (hold .pending)) t).hold.state = .confirmed
        ∧ confirmMet short = false ∧ (after (exec .standstillSet short) t).hold.state = .applying)
      ∧ ((after (exec .standstillSet { hold .pending with part := .stopping }) t).part = .config
        ∧ (after (exec .standstillSet (hold .releasing)) t).hold.state = .confirmed
        ∧ (asked.usable .driveRequest = true ∧ asked.param 6 18 ≤ asked.value .driveRequest)
        ∧ (after (exec .standstillSet asked) t).hold = asked.hold)
      ∧ ((door.door 1).state = .locked ∧ (after (exec .standstillSet door) t).part ≠ .config
        ∧ ((after (exec .standstillSet door) t).door 1).state = .opening ∧ door.HoldSound ∧ door.DoorsHeld)
      ∧ (waits.HoldSound ∧ waits.DoorsHeld ∧ (waits.door 2).state = .releaseWait
        ∧ ((after (exec .standstillSet waits) t).door 2).state ≠ .releaseWait ∧ early.HoldSound ∧ early.DoorsHeld
        ∧ ((after (exec .standstillSet early) t).door 2).state = .releaseWait) := by decide +kernel

/-- A guard at level 1 or 2 whose fall condition has held for the minimum duration. -/
def falling (level : Nat) (torque : Int) : State :=
  { run with
    motion := { run.motion with standstill := false, speed := 1000 }
    joint := { run.joint with guard := level, guardTimer := 19, torque := torque }
    drive := { run.drive with torque := torque } }

theorem witness_TrackingAndGuardFall :
    (let s := { run with rear := { run.rear with state := .active, command := 151, target := 151, trackTimer := 19 } }
    s.TrackingElapses ∧ 1 ≤ s.param 3 202 ∧ s.FaultsSound ∧ s.faults.list.length < 32)
    ∧ ((let s := falling 1 600
     s.part ≠ .config ∧ s.GuardWatches ∧ s.GuardFallMet
       ∧ s.param 4 32 ≤ ((s.joint.guardTimer + 1 : Nat) : Int) ∧ s.FaultsSound ∧ s.drive.torque = s.joint.torque)
    ∧ (let s := falling 2 200
       s.GuardWatches ∧ s.GuardFallMet
         ∧ s.param 4 32 ≤ ((s.joint.guardTimer + 1 : Nat) : Int) ∧ s.drive.torque = s.joint.torque)) := by
  decide +kernel

/-- A corner on a moving bus whose error has stood outside the moving deadband for the persistence time. -/
def persisting (error : Int) (dir : PersistDir) : State :=
  { cornerIn 2 { Corner.reset with height := -error, error := error, persist := 99, dir := dir } with
    motion := { run.motion with standstill := false, speed := 2000 } }

/-- A run at its timeout that has moved the corner by a number of millimetres. -/
def timingOut (valve : Valve) (run height start : Int) : State :=
  cornerIn 3 { Corner.reset with
    valve := valve, error := -height, height := height, runStart := start, pulse := 4, run := run.toNat }

theorem witness_CornersAndKneelTimeOut :
    (((persisting 26 .up).PersistenceElapses 2
        ∧ (persisting 26 .up).param 5 12 < ((persisting 26 .up).corner 2).error)
      ∧ ((persisting (-26) .down).PersistenceElapses 2
        ∧ ((persisting (-26) .down).corner 2).error ≤ (persisting (-26) .down).param 5 12)
      ∧ (cornerIn 1 { Corner.reset with valve := .filling, error := 5, height := -5, pulse := 3, run := 3 }).PulseElapses 1)
    ∧ (((timingOut .filling 1200 (-20) (-25)).RunTimesOut 3
        ∧ 5 ≤ ((timingOut .filling 1200 (-20) (-25)).corner 3).height - ((timingOut .filling 1200 (-20) (-25)).corner 3).runStart)
      ∧ ((timingOut .exhausting 800 20 25).RunTimesOut 3
        ∧ 5 ≤ ((timingOut .exhausting 800 20 25).corner 3).runStart - ((timingOut .exhausting 800 20 25).corner 3).height)
      ∧ ((timingOut .filling 1200 (-20) (-24)).RunTimesOut 3
        ∧ ((timingOut .filling 1200 (-20) (-24)).corner 3).height - ((timingOut .filling 1200 (-20) (-24)).corner 3).runStart < 5
        ∧ (timingOut .filling 1200 (-20) (-24)).FaultsSound
        ∧ (timingOut .filling 1200 (-20) (-24)).faults.list.length < 32))
    ∧ (let low := { kneelIn .lowering 1000 with corners := run.corners.map (fun k => { k with height := -60 }) }
    let high := kneelIn .lowering 1000
    let up := kneelIn .raising 1600
    (low.part ≠ .config ∧ low.faults.list.length < 32 ∧ low.param 5 37 < ((low.kneel.timer + 1 : Nat) : Int)
        ∧ raisingDone low = false)
      ∧ (high.param 5 37 < ((high.kneel.timer + 1 : Nat) : Int) ∧ raisingDone high = true)
      ∧ up.kneel.state = .raising ∧ up.kneel.timeoutFlag = false ∧ up.param 5 38 < ((up.kneel.timer + 1 : Nat) : Int)) := by
  refine ⟨⟨?up, ?down, ?pulse⟩, ⟨?goes, ?out, ?frozen⟩, ?kneel⟩ <;> decide +kernel

theorem witness_HoldAndSaturationTimers :
    (let a := { run with hold := { state := .applying, pressure := 300, confirmTimer := 200, timeoutFlag := false } }
    let r := { run with hold := { state := .releasing, pressure := 25, confirmTimer := 0, timeoutFlag := false } }
    (a.part ≠ .config ∧ a.param 6 17 < ((a.hold.confirmTimer + 1 : Nat) : Int) ∧ a.faults.list.length < 32)
      ∧ r.hold.state = .releasing ∧ r.hold.pressure ≤ r.param 6 19)
    ∧ (let s := { run with axle := { run.axle with driver := #v[651, 0, 0], satTimer := #v[39, 0, 0] } }
    s.part ≠ .config ∧ s.param 6 11 < s.axle.driver[0] ∧ s.axle.satTimer[0] < 255
      ∧ ((s.axle.satTimer[0] + 1 : Nat) : Int) = s.param 6 20 ∧ s.faults.list.length < 32) := by
  decide +kernel

/-- Each event one count short of its time, and with one of its conditions missing: a record of age 49, a standstill timer at 58, a
tracking timer at 18, a guard timer at 18 and an angle at the fall limit, a persistence at 98 and one suspended, a pulse at 2 and an
error outside the band, runs, kneel and hold timers at their times, a release of two steps, a saturation at 38 and past 40, door
timers at their times, a load idle for 1998 cycles. -/
theorem witness_EventsNotDue :
    let still := { run with motion := { speed := 30, status := .valid, standstill := false, timer := 58 } }
    let track := fun n : Nat =>
      ({ run with rear := { run.rear with state := .active, command := 400, target := 400, trackTimer := n } } : State)
    let guard := fun (n : Nat) (angle : Int) =>
      ({ falling 1 600 with
        joint := { (falling 1 600).joint with guardTimer := n }, signals := run.signals.set 1 (fresh angle) } : State)
    let low := fun n : Nat => cornerIn 1 { Corner.reset with valve := .filling, error := 5, height := -5, pulse := n, run := n }
    let braked := { persisting 26 .up with axle := { run.axle with decel := 6 } }
    let hold := fun (state : HoldState) (p : Int) (n : Nat) =>
      ({ run with hold := { state := state, pressure := p, confirmTimer := n, timeoutFlag := false } } : State)
    let sat := fun n : Nat => ({ run with axle := { run.axle with driver := #v[651, 0, 0], satTimer := #v[n, 0, 0] } } : State)
    (run.vehicle.linkFault = false ∧ run.chassis.linkFault = false ∧ (aging 10 2 run).signals[10].age = 50
      ∧ still.param 8 19 = 60 ∧ ¬ still.param 8 19 ≤ ((still.motion.timer + 1 : Nat) : Int))
    ∧ (¬ (track 18).TrackingElapses ∧ (track 19).TrackingElapses
      ∧ (guard 18 0).GuardWatches ∧ ¬ (guard 18 0).param 4 32 ≤ (((guard 18 0).joint.guardTimer + 1 : Nat) : Int)
      ∧ (guard 19 3899).GuardFallMet ∧ ¬ (guard 19 3900).GuardFallMet)
    ∧ ((persisting 26 .up).PersistenceElapses 2 ∧ ¬ (persisting 25 .up).PersistenceElapses 2)
    ∧ (¬ (persisting 26 .down).PersistenceElapses 2 ∧ ¬ braked.PersistenceElapses 2)
    ∧ (¬ (low 2).PulseElapses 1 ∧ (low 3).PulseElapses 1 ∧ ¬ (timingOut .filling 1199 (-20) (-25)).RunTimesOut 3)
    ∧ (¬ (kneelIn .lowering 999).param 5 37 < (((kneelIn .lowering 999).kneel.timer + 1 : Nat) : Int)
      ∧ ¬ (kneelIn .raising 1599).param 5 38 < (((kneelIn .raising 1599).kneel.timer + 1 : Nat) : Int)
      ∧ ¬ (hold .applying 300 199).param 6 17 < (((hold .applying 300 199).hold.confirmTimer + 1 : Nat) : Int)
      ∧ ¬ (hold .releasing 26 0).hold.pressure ≤ (hold .releasing 26 0).param 6 19
      ∧ ¬ (((sat 38).axle.satTimer[0] + 1 : Nat) : Int) = (sat 38).param 6 20
      ∧ ¬ (((sat 40).axle.satTimer[0] + 1 : Nat) : Int) = (sat 40).param 6 20)
    ∧ (¬ (doorIn 1 .opening 799).param 7 14 < ((((doorIn 1 .opening 799).door 1).timer + 1 : Nat) : Int)
      ∧ ¬ (doorIn 1 .closing 999).param 7 15 < ((((doorIn 1 .closing 999).door 1).timer + 1 : Nat) : Int)
      ∧ ¬ (doorIn 1 .warning 298).param 7 16 ≤ ((((doorIn 1 .warning 298).door 1).timer + 1 : Nat) : Int)
      ∧ ¬ (doorIn 3 .openState 1998).param 7 39 ≤ ((((doorIn 3 .openState 1998).door 3).timer + 1 : Nat) : Int)
      ∧ run.loading = none) := by
  refine ⟨?links, ?gear, ?persists, ?stops, ?runs, ?timers, ?doors⟩ <;> decide +kernel

theorem witness_AxlePressuresResolved : run.part ≠ .config := by decide +kernel

theorem witness_DoorTimers :
    (let s := doorIn 1 .opening 800
     s.part ≠ .config ∧ s.motion.standstill = true ∧ s.hold.state = .confirmed
       ∧ s.param 7 14 < (((s.door 1).timer + 1 : Nat) : Int) ∧ s.faults.list.length < 32)
    ∧ (let s := doorIn 1 .closing 1000
       s.param 7 15 < (((s.door 1).timer + 1 : Nat) : Int))
    ∧ (let s := doorIn 1 .warning 299
       s.param 7 16 ≤ (((s.door 1).timer + 1 : Nat) : Int))
    ∧ (let s := doorIn 3 .openState 1999
       s.param 7 39 ≠ 0 ∧ ((s.door 3).reversals : Int) < s.param 7 40 ∧ (s.door 3).closeDeferred = false
         ∧ s.param 7 39 ≤ (((s.door 3).timer + 1 : Nat) : Int) ∧ s.tableValid 7 = true ∧ s.param 7 42 = 1) := by decide +kernel

/-- A watched line whose filter runs, at a door in a state. -/
def edging (d : Fin 4) (state : DoorState) (filtered deferred : Bool) : State :=
  { run with
    doors := run.doors.set d { Door.reset with
      state := state, position := .closedLocked, closeDeferred := deferred, reversals := 2 }
    edges := run.edges.set d { high := !filtered, filtered := filtered, running := true, timer := 49 } }

theorem witness_EdgeLines :
    (config.edges[0].running = false)
      ∧ (let s := edging 0 .closing false false
         s.tableValid 7 = true ∧ s.edges[0].running = true ∧ s.faults.list.length < 32 ∧ s.part ≠ .config
           ∧ s.edges[0].filtered = false ∧ (s.door 0).state = .closing ∧ ((s.door 0).reversals : Int) < s.param 7 7
           ∧ s.param 7 7 ≤ (((s.door 0).reversals + 1 : Nat) : Int))
      ∧ (let s := edging 3 .openState true true
         s.edges[3].running = true ∧ s.edges[3].filtered = true ∧ s.param 7 42 = 1 ∧ (s.door 3).closeDeferred = true) := by
  decide +kernel

/-! The reports of the signal store at a command: a sample and, where a record is lost, the record going stale. -/

/-- Two wheel speeds in one frame. -/
def speeds (vals : List Int) : Frame := frame 14 .sample 1 1 vals

/-- A kneel under way on a bus that moves off at 0.81 m/s, its corners short of the ride height and at it, in RUN and in STOPPING, and
one that stays at 0.80; a speed lost; a speed that comes back. -/
theorem witness_SpeedReported :
    let down := kneelIn .lowering 5
    let low := { down with corners := run.corners.map fun k => { k with height := -60 } }
    let stopping := { down with part := .stopping }
    let gone := { run with motion := Motion.reset, rear := { run.rear with latch := true } }
    (∀ p ∈ [(down, speeds [80, 81]), (low, speeds [80, 81]), (stopping, speeds [80, 81]), (run, speeds [80, 80])
        , (rolling 500, speeds [500]), (gone, speeds [30, 31])], Takes p.1 p.2)
      ∧ ((∃ x ∈ reports down (speeds [80, 81]), x.role = .wheelSpeed)
        ∧ (∀ x ∈ reports down (speeds [80, 81]), x.role = .wheelSpeed)
        ∧ (down.tab 1).pendingSwap = false ∧ 0 ≤ down.param 8 18 ∧ down.part = .run ∧ down.FaultsSound
        ∧ down.faults.list.length ≤ 24 ∧ (wheelSpeeds (stored down (speeds [80, 81]))).length = 2
        ∧ down.motion.standstill = true ∧ (taken down (speeds [80, 81])).motion.standstill = false
        ∧ (taken down (speeds [80, 81])).motion.speed = 81 ∧ down.kneel.state = .lowering)
      ∧ ((taken down (speeds [80, 81])).part = .run ∧ (taken down (speeds [80, 81])).kneel.state = .level
        ∧ (taken down (speeds [80, 81])).claims .kneel = false ∧ (taken low (speeds [80, 81])).kneel.state = .raising
        ∧ (taken stopping (speeds [80, 81])).part = .stopping ∧ (taken stopping (speeds [80, 81])).kneel.state = .level)
      ∧ (taken run (speeds [80, 80])).motion = { run.motion with speed := 80 }
      ∧ ((wheelSpeeds (stored (rolling 500) (speeds [500]))).length < 2
        ∧ (rolling 500).motion.status = .valid ∧ (taken (rolling 500) (speeds [500])).motion.status = .lost)
      ∧ (gone.motion.status = .lost ∧ (taken gone (speeds [30, 31])).motion.status = .valid ∧ gone.rear.state ≠ .parked) :=
  ⟨takes_all _ (by decide +kernel), by decide +kernel⟩

/-- An accepted T3; the angles reported with their faults absent, the front angle back after its loss, each of them lost; on a bus
past the lock speed and within its hysteresis. -/
theorem witness_RearAnglesReported :
    let front := frame 11 .sample 1 1 [500]
    let rear := frame 13 .sample 1 1 [100]
    let back := fun speed : Int => listFault .frontAngleLost 0
      { rolling speed with rear := { run.rear with latch := true }, signals := run.signals.set 0 { fresh 0 with status := .lost } }
    (∀ p ∈ [(run, front), (run, rear), (back 3499, front), (back 3500, front), (back 4000, front)], Takes p.1 p.2)
      ∧ (∀ p ∈ [(aging 0 2 run, (0 : Fin 96)), (aging 2 2 run, 2)], GoesStale p.1 p.2)
      ∧ (BankSound 3 (run.tab 3).active ∧ run.rear.state ≠ .parked ∧ run.part ≠ .config
        ∧ run.FaultsSound ∧ run.faults.list.length ≤ 24 ∧ (back 3499).FaultsSound ∧ (back 3499).faults.list.length ≤ 24)
      ∧ (reports run front = [{ role := .frontAngle, accepted := true, was := true }]
        ∧ reports run rear = [{ role := .rearActual, accepted := true, was := true }]
        ∧ (stored run front).usable .frontAngle = true ∧ (stored run rear).usable .rearActual = true
        ∧ reports (back 3499) front = [{ role := .frontAngle, accepted := true, was := false }])
      ∧ ((taken (back 3499) front).faults.levels.steering = .full ∧ (back 3499).faults.levels.steering = .reduced
        ∧ (taken (back 3499) front).rear.latch = false ∧ (taken (back 3500) front).rear.latch = true
        ∧ (taken (back 4000) front).rear.latch = true)
      ∧ (staleReports (aging 0 2 run) 0 = [{ role := .frontAngle, accepted := false, was := true }]
        ∧ (staleStored (aging 0 2 run) 0).usable .frontAngle = false
        ∧ staleReports (aging 2 2 run) 2 = [{ role := .rearActual, accepted := false, was := true }]
        ∧ (staleStored (aging 2 2 run) 2).usable .rearActual = false
        ∧ (staled (aging 2 2 run) 2).faults.levels.steering = .safe ∧ run.faults.levels.steering ≠ .safe) :=
  ⟨takes_all _ (by decide +kernel), stale_all _ (by decide +kernel), by decide +kernel⟩

/-- The run state on a bus at 10 m/s, with a sample of the joint angle one cycle old in the history. -/
def joined : State := { rolling 1000 with joint := { run.joint with history := [{ value := 3899, cycle := 999 }] } }

/-- A sample of the joint angle. -/
def angled (angle : Int) : Frame := frame 12 .sample 1 1 [angle]

/-- A first sample, a second one that raises the guard by each of its three tests, in RUN and in STOPPING, one whose frame also brings
the pressure that confirms the hold of a stopping part, and the record going stale under each policy. -/
theorem witness_JointReported :
    let first := { joined with joint := run.joint }
    let stopping := { joined with part := .stopping }
    let ending := { stopping with
      hold := { run.hold with state := .applying }
      signals := run.signals.set 20 (fresh 0)
      tables := run.tables.set 1 (bank ((definitions.take (12 * 20)) ++ sig 21 12 1 1 0 1000 ++ definitions.drop (12 * 21))) }
    let both := frame 12 .sample 1 1 [4001, 280]
    (∀ p ∈ [(first, angled 4001), (stopping, angled 4001), (ending, both), (joined, angled 4001), (joined, angled 4301)
        , (joined, angled 4000)], Takes p.1 p.2)
      ∧ (∀ p ∈ [(aging 1 0 joined, 1), (aging 1 1 joined, 1), (aging 1 2 joined, 1)], GoesStale p.1 p.2)
      ∧ ((∀ y ∈ reports joined (angled 4001), y.role ≠ .wheelSpeed)
        ∧ reportFor .jointAngle (reports joined (angled 4001)) = some { role := .jointAngle, accepted := true, was := true }
        ∧ joined.part = .run ∧ joined.FaultsSound ∧ joined.drive.torque = joined.joint.torque
        ∧ (stored joined (angled 4001)).usable .jointAngle = true)
      ∧ (first.joint.history = [] ∧ (taken first (angled 4001)).joint.guard = 1
        ∧ (taken joined (angled 4001)).joint.guard = 2 ∧ (taken joined (angled 4301)).joint.guard = 2
        ∧ (taken joined (angled 4000)).joint.guard = 0 ∧ (taken joined (angled 4001)).joint.rate = 102)
      ∧ ((taken stopping (angled 4001)).part = .stopping ∧ (taken stopping (angled 4001)).joint.guard = 2
        ∧ reportFor .jointAngle (reports ending both) = some { role := .jointAngle, accepted := true, was := true }
        ∧ (∀ y ∈ reports ending both, y.role ≠ .wheelSpeed) ∧ ending.FaultsSound ∧ ending.drive.torque = ending.joint.torque
        ∧ (taken ending both).part = .config ∧ (taken ending both).joint = Joint.reset)
      ∧ (let s := fun policy => aging 1 policy joined
        (∀ p ∈ ([0, 1, 2] : List Int),
          reportFor .jointAngle (staleReports (s p) 1) = some { role := .jointAngle, accepted := false, was := true })
        ∧ ((staleStored (s 0) 1).role .jointAngle).status = .held ∧ ((staleStored (s 1) 1).role .jointAngle).status = .substituted
        ∧ ((staleStored (s 2) 1).role .jointAngle).status = .lost ∧ (s 2).FaultsSound) :=
  ⟨takes_all _ (by decide +kernel), stale_all _ (by decide +kernel), by decide +kernel⟩

/-- The reservoir at and beside its two thresholds and unusable; a bellows sample of a settled corner and of one that fills; a
bellows record that is lost; a sample that changes no load, and one at which a saturation goes on under the new load, and one at which
it ends. -/
theorem witness_AirAndLoadsReported :
    let air := fun p : Int => frame 27 .sample 1 1 [p]
    let bellows := frame 21 .sample 1 1 [500]
    let filling := cornerIn 0 { Corner.reset with valve := .filling, error := 5, height := -5, loadPressure := some 430 }
    let steady := frame 21 .sample 1 1 [430]
    let heavy := frame 21 .sample 1 1 [1000]
    let light := frame 21 .sample 1 1 [0]
    let laden := resolveAxles { run with
      axle := { run.axle with decel := 600, satTimer := #v[3, 0, 0] }, loads := run.loads.set 0 ⟨8000, .fallback⟩ }
    (∀ p ∈ [(run, air 599), (run, bellows), (filling, bellows), (run, steady), (laden, heavy), (laden, light)], Takes p.1 p.2)
      ∧ (∀ p ∈ [(aging 10 2 run, 10), (aging 16 2 run, 16)], GoesStale p.1 p.2)
      ∧ (run.part ≠ .config ∧ run.usable .reservoir = true ∧ (staleStored (aging 16 2 run) 16).usable .reservoir = false
        ∧ (∀ x ∈ reports run (air 599), x.role = .reservoir) ∧ reports run (air 599) ≠ []
        ∧ (taken run (air 720)).air.level = .normal ∧ (taken run (air 719)).air.level = .restricted
        ∧ (taken run (air 600)).air.level = .restricted ∧ (taken run (air 599)).air.level = .reserve)
      ∧ (reports run bellows = [{ role := .bellows 0, accepted := true, was := true }]
        ∧ (stored run bellows).usable (.bellows 0) = true ∧ (stored run bellows).usable (.bellows 1) = true
        ∧ (run.corner 0).valve = .hold ∧ (run.corner 0).settle = 0
        ∧ ((taken run bellows).corner 0).loadPressure = some 500 ∧ ((taken run bellows).corner 1).loadPressure = some 430
        ∧ (filling.corner 0).valve ≠ .hold)
      ∧ (staleReports (aging 10 2 run) 10 = [{ role := .bellows 0, accepted := false, was := true }]
        ∧ (staleStored (aging 10 2 run) 10).usable (.bellows 0) = false ∧ run.faults.list.length ≤ 24)
      ∧ ((taken run steady).loads = run.loads ∧ (taken run bellows).loads ≠ run.loads
        ∧ ((taken laden heavy).loads ≠ laden.loads ∧ laden.param 6 11 < (taken laden heavy).axle.driver[0]
          ∧ (taken laden heavy).axle.satTimer[0] = 3)
        ∧ (taken laden light).axle.driver[0] ≤ laden.param 6 11) :=
  ⟨takes_all _ (by decide +kernel), stale_all _ (by decide +kernel), by decide +kernel⟩

/-- A deceleration at the deadband, past it, at Dmax and past it; a record that is lost; an axle that saturates and one whose
saturation ends. -/
theorem witness_DecelReported :
    let decel := fun x : Int => frame 28 .sample 1 1 [x]
    let heavy := listFault .brakeSaturated 0
      { run with
        loads := Vector.replicate 3 { load := 8000, status := .fallback }, axle := { run.axle with satTimer := #v[3, 0, 0] } }
    (∀ p ∈ [(run, decel 5), (run, decel 6), (run, decel 600), (run, decel 601), (heavy, decel 600), (heavy, decel 5)], Takes p.1 p.2)
      ∧ GoesStale (aging 17 2 run) 17
      ∧ (run.part ≠ .config ∧ run.FaultsSound ∧ run.faults.list.length ≤ 24
        ∧ reports run (decel 5) = [{ role := .driverDecel, accepted := true, was := true }]
        ∧ reportFor .driverDecel (reports run (decel 5)) = some { role := .driverDecel, accepted := true, was := true })
      ∧ ((taken run (decel 5)).axle.decel = 0 ∧ (taken run (decel 6)).axle.decel = 6 ∧ (taken run (decel 600)).axle.decel = 600
        ∧ (taken run (decel 601)).axle.decel = 600)
      ∧ (heavy.FaultsSound ∧ heavy.axle.satTimer[0] ≠ 0 ∧ heavy.param 6 11 < (taken heavy (decel 600)).axle.driver[0]
        ∧ (taken heavy (decel 5)).axle.driver[0] ≤ heavy.param 6 11)
      ∧ (staleReports (aging 17 2 run) 17 = [{ role := .driverDecel, accepted := false, was := true }]
        ∧ (staleStored (aging 17 2 run) 17).usable .driverDecel = false) :=
  ⟨takes_all _ (by decide +kernel), goes_stale _ _ (by decide +kernel), by decide +kernel⟩

/-- The kneel corners 1 and 3 at the tolerance of their kneel targets while LOWERING, also with the drive asked, and at the kneel clear
while RAISING; a height of no kneel corner; a height that is lost. A corner at each side of the end test, of the wait, of the
standstill deadband and of the moving one. -/
theorem witness_HeightAndKneelReported :
    let sample := fun h : Int => frame 16 .sample 1 1 [h]
    let kneel := fun (state : KneelState) (h : Int) =>
      ({ kneelIn state 5 with corners := run.corners.map (fun k => { k with height := h, target := -60 }) } : State)
    let asked := { kneel .lowering (-60) with signals := run.signals.set 18 (fresh 50) }
    let corner := fun (valve : Valve) (pulse settle : Nat) =>
      cornerIn 1 { Corner.reset with valve := valve, pulse := pulse, settle := settle }
    let moving := { cornerIn 1 { Corner.reset with persist := 7, dir := .up } with motion := (rolling 2000).motion }
    let made := fun (s : State) (h : Int) => (taken s (sample h)).corner 1
    (∀ p ∈ [(kneel .lowering (-60), sample (-52)), (kneel .lowering (-60), sample (-51)), (asked, sample (-52))
        , (kneel .raising 0, sample (-15)), (kneel .raising 0, sample (-16)), (run, frame 15 .sample 1 1 [30])
        , (corner .filling 4 0, sample (-5)), (corner .waitFill 0 0, sample (-5)), (corner .hold 0 0, sample (-11))
        , (moving, sample (-26))], Takes p.1 p.2)
      ∧ GoesStale (aging 5 2 run) 5
      ∧ ((∀ x ∈ reports (kneel .lowering (-60)) (sample (-52)), ∃ k : Fin 6, x.role = .height k)
        ∧ reports run (sample 0) = [{ role := .height 1, accepted := true, was := true }]
        ∧ (stored run (sample 0)).usable (.height 1) = true ∧ (run.raw 5 9).getLsbD 1 = true ∧ (run.raw 5 9).getLsbD 0 = false
        ∧ run.part ≠ .config ∧ driveAsked run = false ∧ driveAsked (stored asked (sample (-52))) = true ∧ run.param 5 34 = 1)
      ∧ ((taken (kneel .lowering (-60)) (sample (-52))).kneel.state = .knelt
        ∧ (taken (kneel .lowering (-60)) (sample (-51))).kneel.state = .lowering
        ∧ (taken asked (sample (-52))).kneel.state = .raising
        ∧ (taken (kneel .raising 0) (sample (-15))).kneel.state = .level
        ∧ (taken (kneel .raising 0) (sample (-16))).kneel.state = .raising)
      ∧ (staleReports (aging 5 2 run) 5 = [{ role := .height 1, accepted := false, was := true }]
        ∧ (staleStored (aging 5 2 run) 5).usable (.height 1) = false ∧ run.faults.list.length < 32
        ∧ (run.corner 1).frozen = false)
      ∧ (suspended run = false ∧ suspended moving = false ∧ 1 ≤ run.param 5 16 ∧ 0 ≤ run.param 5 15 ∧ run.kneel.state.lowered = false
        ∧ (kneel .lowering (-60)).kneel.state.lowered = true)
      ∧ ((made (corner .filling 4 0) (-5)).valve = .hold ∧ (made (corner .filling 3 0) (-5)).valve = .filling
        ∧ (made (corner .filling 4 0) (-6)).valve = .filling ∧ (made (corner .exhausting 4 0) 5).valve = .hold
        ∧ (made (corner .exhausting 4 0) 6).valve = .exhausting
        ∧ (made (corner .waitFill 0 0) (-5)).valve = .hold ∧ (made (corner .waitFill 0 0) (-6)).valve = .filling)
      ∧ ((made (corner .hold 0 0) (-11)).valve = .filling ∧ (made (corner .hold 0 0) (-10)).valve = .hold
        ∧ (made (corner .hold 0 0) 11).valve = .exhausting ∧ (made (corner .hold 0 1) 11).valve = .hold
        ∧ (made moving (-26)).persist = 7 ∧ (made moving (-25)).persist = 0 ∧ (made moving 26).persist = 0) :=
  ⟨takes_all _ (by decide +kernel), goes_stale _ _ (by decide +kernel), by decide +kernel⟩

/-- A LOCKED door that loses its position is in FAULT, its pending release kept (R149, R159). -/
theorem test_signalStale_pending_release :
    let s := { aging 22 2 run with doors := run.doors.set 0 { (run.door 0) with pendingRelease := true } }
    ((staled s 22).door 0).state = .fault ∧ ((staled s 22).door 0).pendingRelease = true := by decide +kernel

/-- An APPLYING hold at the confirming pressure and short of it, with STARTUP the last claim and the drive asked, in STOPPING, with
doors that wait and with a kneel in WAIT-HOLD above and at its kneel targets; the drive asked and not asked of a CONFIRMED hold
without claims, of one with a claim, of a RELEASING one, of a RELEASED one and of a KNELT kneel. -/
theorem witness_HoldReported :
    let brake := fun p : Int => frame 31 .sample 1 1 [p]
    let drive := fun x : Int => frame 29 .sample 1 1 [x]
    let applying := { run with hold := { run.hold with state := .applying } }
    let startup := { applying with holdSet := [⟨.startup, 0⟩], signals := run.signals.set 18 (fresh 50) }
    let stopping := { applying with part := .stopping }
    let waits := { applying with doors := #v[{ Door.reset with state := .releaseWait }
      , { Door.reset with state := .releaseWait, mode := .passenger }, run.door 2, run.door 3] }
    let kneel := fun h : Int => ({ kneelIn .waitHold 5 with
      hold := applying.hold, corners := run.corners.map (fun k => { k with height := h }) } : State)
    let kneelAsked := { kneel (-60) with signals := run.signals.set 18 (fresh 50) }
    let knelt := { kneelIn .knelt 5 with corners := run.corners.map (fun k => { k with height := -60 }) }
    let free := { run with holdSet := [], drive := { inhibit := false, torque := 1000 } }
    let releasing := { free with hold := { run.hold with state := .releasing, pressure := 100 } }
    (∀ p ∈ [(applying, brake 270), (applying, brake 269), (startup, brake 270), (stopping, brake 270), (waits, brake 270)
        , (kneel 0, brake 270), (kneel (-60), brake 270), (kneelAsked, brake 270)
        , (free, drive 50), (free, drive 49), (run, drive 50), (releasing, drive 49), (knelt, drive 50), (knelt, drive 49)
        , (kneelIn .knelt 5, drive 50)], Takes p.1 p.2)
      ∧ ((∀ x ∈ reports applying (brake 270), ∃ a : Fin 3, x.role = .brakeActual a)
        ∧ (∃ x ∈ reports applying (brake 270), ∃ a : Fin 3, x.role = .brakeActual a ∧ (applying.raw 6 15).getLsbD a.val = true)
        ∧ (stored applying (brake 270)).usable (.brakeActual 1) = true ∧ applying.part = .run ∧ applying.kneel.state ≠ .waitHold
        ∧ (taken applying (brake 270)).hold.state = .confirmed ∧ (taken applying (brake 269)).hold.state = .applying
        ∧ (startup.claims .startup = true ∧ (∀ x ∈ startup.holdSet, x.holder = .startup))
        ∧ (taken startup (brake 270)).hold.state = .releasing ∧ (taken stopping (brake 270)).part = .config)
      ∧ (((taken waits (brake 270)).door 0).state = .opening ∧ ((taken waits (brake 270)).door 1).state = .released
        ∧ gateOf (taken waits (brake 270)) 0 = true)
      ∧ (loweringDone (stored (kneel 0) (brake 270)) = false ∧ (taken (kneel 0) (brake 270)).kneel.state = .lowering
        ∧ loweringDone (stored (kneel (-60)) (brake 270)) = true ∧ (taken (kneel (-60)) (brake 270)).kneel.state = .knelt
        ∧ (taken kneelAsked (brake 270)).kneel.state = .raising)
      ∧ (reports free (drive 50) ≠ [] ∧ (∀ x ∈ reports free (drive 50), x.role = .driveRequest) ∧ free.kneel.state ≠ .knelt
        ∧ free.holdSet = [] ∧ free.hold.state = .confirmed ∧ (taken free (drive 50)).hold.state = .releasing
        ∧ (taken free (drive 49)).hold.state = .confirmed ∧ (taken run (drive 50)).hold.state = .confirmed
        ∧ releasing.hold.state = .releasing ∧ releasing.motion.standstill = true
        ∧ (taken releasing (drive 49)).hold.state = .confirmed
        ∧ (rolling 100).motion.standstill = false)
      ∧ (knelt.param 5 34 = 1 ∧ raisingDone (stored knelt (drive 50)) = false ∧ (taken knelt (drive 50)).kneel.state = .raising
        ∧ (taken knelt (drive 49)).kneel = knelt.kneel ∧ (taken (kneelIn .knelt 5) (drive 50)).kneel.state = .level) :=
  ⟨takes_all _ (by decide +kernel), by decide +kernel⟩

/-- A position in CONFIG and in RUN, of an OPENING door that is fully open and of a LOCKED one on a moving bus; a position that is
lost; a button pressed at a RELEASED door; a handle pulled and returned, in RUN and in STOPPING, where a pull may confirm the hold. -/
theorem witness_DoorsReported :
    let position := fun v : Int => frame 33 .sample 1 1 [v]
    let button := fun v : Int => frame 37 .sample 1 1 [v]
    let handle := fun v : Int => frame 41 .sample 1 1 [v]
    let open_ := fun (state : DoorState) => doorIn 0 state 5
    let moving := { rolling 500 with doors := config.doors }
    let pulled := { open_ .emergency with
      doors := run.doors.set 0 { Door.reset with state := .emergency, position := .closedLocked, lastHandle := true, tone := true } }
    let out := { pulled with signals := run.signals.set 22 SigRec.reset }
    let closing := { kneelIn .lowering 5 with
      doors := (doorIn 0 .closing 5).doors, holdSet := (doorIn 0 .closing 5).holdSet ++ [⟨.kneel, 950⟩] }
    let lost := { pulled with signals := run.signals.set 22 { fresh 1 with status := .lost } }
    let stopping := { run with part := .stopping }
    let ending := { stopping with hold := { run.hold with state := .releasing } }
    (∀ p ∈ [(config, position 2), (open_ .opening, position 4), (moving, position 2), (open_ .released, button 1), (closing, position 1)
        , (run, handle 1), (stopping, handle 1), (ending, handle 1), (pulled, handle 0), (out, handle 0), (lost, handle 0)], Takes p.1 p.2)
      ∧ (∀ p ∈ [(aging 22 2 run, 22)], GoesStale p.1 p.2)
      ∧ (reports config (position 2) = [{ role := .doorPosition 0, accepted := true, was := true }]
        ∧ (stored config (position 2)).usable (.doorPosition 0) = true ∧ config.DoorsHeld ∧ config.faults.list.length < 32
        ∧ (open_ .opening).DoorsHeld ∧ ((taken (open_ .opening) (position 4)).door 0).state = .openState
        ∧ moving.DoorsHeld ∧ moving.motion.standstill = false ∧ ((taken moving (position 2)).door 0).state = .fault)
      ∧ (closing.FaultsSound ∧ closing.rear.state ≠ .parked ∧ closing.DoorsHeld ∧ closing.allLocked = false ∧ closing.param 5 33 = 1
        ∧ (taken closing (position 1)).allLocked = true ∧ (taken closing (position 1)).kneel.state = .level)
      ∧ (staleReports (aging 22 2 run) 22 = [{ role := .doorPosition 0, accepted := false, was := true }]
        ∧ (staleStored (aging 22 2 run) 22).usable (.doorPosition 0) = false ∧ (aging 22 2 run).DoorsHeld
        ∧ ((staled (aging 22 2 run) 22).door 0).state = .fault)
      ∧ (reports (open_ .released) (button 1) = [{ role := .doorButton 0, accepted := true, was := false }]
        ∧ (stored (open_ .released) (button 1)).usable (.doorButton 0) = true ∧ (open_ .released).DoorsHeld
        ∧ ((taken (open_ .released) (button 1)).door 0).state = .opening)
      ∧ (reports run (handle 1) = [{ role := .doorEmergency 0, accepted := true, was := false }]
        ∧ (stored run (handle 1)).usable (.doorEmergency 0) = true ∧ pulled.DoorsHeld
        ∧ ((taken run (handle 1)).door 0).state = .emergency ∧ ((taken pulled (handle 0)).door 0).state = .locked
        ∧ ((taken out (handle 0)).door 0).state = .unknown ∧ ((taken lost (handle 0)).door 0).state = .fault)
      ∧ (stopping.DoorsHeld ∧ (taken stopping (handle 1)).part = .stopping ∧ ((taken stopping (handle 1)).door 0).state = .emergency
        ∧ ending.DoorsHeld ∧ (taken ending (handle 1)).part = .config ∧ ((taken ending (handle 1)).door 0).state = .locked) := by
  refine ⟨takes_all _ ?takes, stale_all _ ?stale, ?positions, ?kneel, ?lost, ?buttons, ?handles, ?stopping⟩ <;> decide +kernel

/-- Ill-formed operands; a request while a reset is pending; and for each layout a value just outside its range. -/
theorem witness_RequestsRefused :
    (requestOf 0 [0] 32 = some (.loadBegin 0 [0]) ∧ requestOf 63 [0] 45 = some (.reset 63 [0])
        ∧ requestOf 5 [] 39 = some (.start 5 []) ∧ 6 < (List.replicate 7 0#16).length
        ∧ requestOf 5 (List.replicate 7 0) 33 = some (.loadData 5 (List.replicate 7 0)))
      ∧ (requestOf 1 [0] 32 = some (.loadBegin 1 [0]) ∧ (resetting .soft).resetPending ≠ none ∧ run.resetPending = none)
      ∧ (∀ v ∈ ([-1, 9, -32768] : List Int), ¬ (0 ≤ (toVal v).toInt ∧ (toVal v).toInt ≤ 8))
      ∧ ¬ 0 ≤ (toVal (-1)).toInt
      ∧ (∀ v ∈ ([0, 512, -32768] : List Int), ¬ (1 ≤ (toVal v).toInt ∧ (toVal v).toInt ≤ 511))
      ∧ (∀ v ∈ ([-1, 2] : List Int), ¬ (0 ≤ (toVal v).toInt ∧ (toVal v).toInt ≤ 1))
      ∧ (∀ v ∈ ([0, 7] : List Int), ¬ (1 ≤ (toVal v).toInt ∧ (toVal v).toInt ≤ 6))
      ∧ (∀ v ∈ ([0, 3] : List Int), ¬ (1 ≤ (toVal v).toInt ∧ (toVal v).toInt ≤ 2))
      ∧ ¬ -32767 ≤ (toVal (-32768)).toInt ∧ ([0, 0] : List Val).length ≠ 1 := by decide +kernel

theorem witness_LoadBeginsAndTakesData :
    (stationOk 1 = true ∧ stationOk 62 = true ∧ run.resetPending = none ∧ run.loading = none
      ∧ (loading 0).loading.map Loading.table = some 6 ∧ (6 : Fin 9) ≠ 0)
    ∧ (stationOk 5 = true ∧ run.loading = none
      ∧ (let s := { loading 0 with tables := run.tables.set 6 { bank brakes with shadow := brakes.map toVal } }
         s.resetPending = none ∧ (s.tab 6).shadow.length ≤ capacity 6 ∧ capacity 6 < (s.tab 6).shadow.length + 1)) := by
  decide +kernel

theorem witness_LoadEndsOrIsAbandoned :
    stationOk 5 = true ∧ (32767 : Nat) ≤ 32767 ∧ run.loading = none ∧ run.resetPending = none
      ∧ (loading 0).loading = some { table := 6, overrun := false, sum := 5, idle := 0 }
      ∧ (loading 1999).loading = some { table := 6, overrun := false, sum := 5, idle := 1999 } ∧ 2000 ≤ 1999 + 1 := by
  decide +kernel

/-- The run state with T0 and T6 COMPLETE in their shadow banks. -/
def loaded : State :=
  { run with
    tables := (run.tables.set 6 { bank brakes with shadowState := .complete, shadow := brakes.map toVal }).set 0
      { bank routes with shadowState := .complete, shadow := routes.map toVal } }

theorem witness_SwapJudged :
    (loaded.resetPending = none ∧ (1#16).toInt = 1 ∧ (511#16).toInt = 511 ∧ (1#16).getLsbD 0 = true ∧ loaded.part ≠ .config)
      ∧ ((32#16).getLsbD 5 = true ∧ (loaded.tab 5).shadowState ≠ .complete ∧ ∀ x : Fin 9, x.val ≤ 2 → (32#16).getLsbD x.val = false)
      ∧ (∀ x : Fin 9, (64#16).getLsbD x.val = true → (loaded.tab x).shadowState = .complete ∧ 2 < x.val)
      ∧ ({ loaded with motion := { loaded.motion with standstill := false } } : State).motion.standstill = false
      ∧ loaded.motion.standstill = true := by decide +kernel

/-- The run state with a sound COMPLETE shadow bank for each of T3 to T7: a lower deadband and one slot in T5, a lower p_h in T6, a
lower reversal limit and no LEVEL line in T7. -/
def swappable : State :=
  { run with
    rear := { run.rear with state := .active }
    joint := { run.joint with torque := 500 }
    drive := { run.drive with torque := 500 }
    tables := #v[run.tab 0, run.tab 1, run.tab 2
      , { bank steering with shadowState := .complete, shadow := steering.map toVal }
      , { bank joint with shadowState := .complete, shadow := joint.map toVal }
      , { bank height with shadowState := .complete, shadow := ((height.set 11 4).set 19 1).map toVal }
      , { bank brakes with shadowState := .complete, shadow := (brakes.set 14 280).map toVal }
      , { bank doors with shadowState := .complete, shadow := ((doors.set 7 1).set 42 0).map toVal }, run.tab 8] }

/-- The state after a swap of the tables of a mask. -/
def swapped (s : State) (mask : Val) : State := after (exec (.swap 5 [mask]) s) s

/-- The swap of all five at standstill and at its setting; corners outside the new deadband and at it; the hold in APPLYING short of
the new confirming pressure, CONFIRMED and RELEASING above the new p_h; a door whose reversals stand at the new limit, one whose
close is deferred, one that waits; saturation timers at a swap of T6 alone, and at one of T5 alone that changes the loads. -/
theorem witness_SwapReachesReaders :
    let corners := #v[{ Corner.reset with height := -5 }, { Corner.reset with height := -4 }, { Corner.reset with height := 5 }
      , Corner.reset, { Corner.reset with valve := .filling, height := -20 }, { Corner.reset with valve := .filling, height := -30 }]
    let s := { swappable with corners := corners }
    let set := { s with
      motion := { speed := 30, status := .valid, standstill := false, timer := 59 }
      tables := s.tables.map fun x => { x with pendingSwap := decide (x.shadowState = .complete) } }
    let hold := fun state : HoldState => ({ swappable with hold := { run.hold with state := state } } : State)
    let short := { hold .applying with signals := run.signals.set 20 (fresh 251) }
    let worn := { swappable with axle := { run.axle with driver := #v[651, 0, 0], satTimer := #v[7, 0, 0] } }
    let laden := { swappable with
      corners := Vector.replicate 6 { Corner.reset with loadPressure := some 1000 }
      axle := { run.axle with decel := 600, driver := #v[651, 0, 0], satTimer := #v[7, 0, 0] } }
    let doors := { swappable with
      doors := #v[{ Door.reset with state := .openState, position := .fullyOpen, reversals := 2 }
        , { Door.reset with state := .openState, reversals := 0 }, { Door.reset with state := .releaseWait, mode := .passenger }
        , { Door.reset with state := .openState, closeDeferred := true }] }
    ((s.part ≠ .config ∧ s.RunSound ∧ s.FaultsSound ∧ s.faults.list.length ≤ 24 ∧ s.drive.torque = s.joint.torque
        ∧ (s.tab 1).pendingSwap = false ∧ s.resetPending = none ∧ s.motion.standstill = true)
      ∧ (∀ x : Fin 9, (248#16).getLsbD x.val = true → 2 < x.val ∧ (s.tab x).shadowState = .complete)
      ∧ (swapped s 248).part ≠ .config ∧ stationOk 5 = true ∧ 1 ≤ (248#16).toInt)
    ∧ s.TablesSound
    ∧ (set.RunSound ∧ set.motion.speed ≤ set.param 8 17 ∧ set.param 8 19 ≤ ((set.motion.timer + 1 : Nat) : Int)
      ∧ (set.tab 7).pendingSwap = true ∧ (after (exec .standstillSet set) set).part ≠ .config)
    ∧ set.TablesSound
    ∧ (((swapped s 248).corner 0).valve = .waitFill ∧ ((swapped s 248).corner 1).valve = .hold
      ∧ ((swapped s 248).corner 2).valve = .exhausting ∧ slotsHeld s = 2 ∧ slotsHeld (swapped s 248) = 1
      ∧ (swapped s 248).kneel = s.kneel)
    ∧ ((swapped short 64).hold.state = .applying ∧ (swapped (hold .applying) 64).hold.state = .confirmed
      ∧ (swapped (hold .confirmed) 64).hold.pressure = 280 ∧ (swapped (hold .releasing) 64).hold.pressure = 280)
    ∧ ((swapped worn 64).hold.state = worn.hold.state ∧ (swapped worn 64).kneel = worn.kneel
      ∧ (swapped worn 64).axle.satTimer[0] = 7
      ∧ (swapped laden 32).loads ≠ laden.loads ∧ (swapped laden 32).param 6 11 < (swapped laden 32).axle.driver[0]
      ∧ (swapped laden 32).axle.satTimer[0] = 7)
    ∧ (((swapped doors 128).door 0).reversals = 2 ∧ (swapped doors 128).param 7 7 = 1 ∧ doors.param 7 7 = 3
      ∧ (swapped doors 128).faultActive .doorObstruction 1 ∧ ((swapped doors 128).door 1).reversals = 0
      ∧ ((swapped doors 128).door 2).state = .released ∧ ((swapped doors 128).door 3).state = .warning) := by
  refine ⟨?ready, ?tables, ?set, ?pending, ?corners, ?hold, ?axle, ?doors⟩ <;> decide +kernel

/-- A record that comes back, one that is lost, one without a role and one of no change; START and STOP accepted, STOP on a hold short
of its confirming pressure and on one CONFIRMED; a swap of T6 pending. -/
theorem witness_NoticesOfChanges :
    let change := fun (role : Role) (old new : SigStatus) =>
      ({ index := 5, role := role, before := { SigRec.reset with status := old }, after := { SigRec.reset with status := new }
         accepted := false } : SigChange)
    let short := { run with
      hold := { run.hold with state := .applying }, signals := run.signals.set 20 (fresh 269) }
    let waiting := { swappable with tables := swappable.tables.set 6 { swappable.tab 6 with pendingSwap := true } }
    ((change .reservoir .lost .fresh).role ≠ .none ∧ (change .reservoir .held .lost).after.status = .lost
      ∧ (change .none .held .lost).role = .none ∧ (change .reservoir .never .fresh).before.status ≠ .lost)
    ∧ (stationOk 5 = true ∧ config.resetPending = none ∧ config.part = .config ∧ (∀ x : Fin 9, config.tableValid x = true)
      ∧ config.motion.standstill = true)
    ∧ (run.resetPending = none ∧ run.part = .run ∧ run.motion.standstill = true ∧ run.hold.state = .confirmed
      ∧ short.hold.state ≠ .confirmed ∧ confirmMet short = false)
    ∧ ((∀ x : Fin 9, (64 : Nat).testBit x.val = (waiting.tab x).pendingSwap) ∧ waiting.part ≠ .config) := by
  decide +kernel

/-- What a notice of each change carries: a door by its edge, a hold, a kneel, a guard level and a part state (11.4, R163, R132,
R117, R76, R188). -/
theorem test_changeNotices :
    sent (after (exec (.doorClose 4) (doorIn 2 .released 10)) run) = [(164, [1, 3, 1, 3, 0, 1])]
      ∧ sent (enterHold .releasing .drive run) = [(168, [1, 4, 3, 4, 300, 1])]
      ∧ sent (after (exec .kneelRaise (kneelIn .waitHold 7)) run) = [(166, [1, 0, 1, 0, 7])]
      ∧ sent (reportGuard 1 { run with joint := { run.joint with guard := 0 }, signals := run.signals.set 1 (fresh 120) })
        = [(169, [1, 0, 1, 120, 0])]
      ∧ sent (signalNotice { index := 5, role := .height 1, before := fresh 0, after := { fresh 0 with status := .lost }
                             accepted := false } run) = [(162, [1, 5, 6])] := by decide +kernel

theorem witness_SelectReadAndQuery :
    (let s := { run with cursor := some (6, .active) }
    run.cursor = none ∧ s.cursor = some (6, .active) ∧ (s.tab 6).active.length < 16 + 6 ∧ 15 + 6 ≤ (s.tab 6).active.length)
    ∧ (queryValues run (10#16).toInt (0#16).toInt (0#16).toInt = some [3, 300, 0, 0]
      ∧ queryValues run (17#16).toInt (0#16).toInt (0#16).toInt = none ∧ (17#16).toInt ≠ -32768)
    ∧ (stationOk 5 = true ∧ run.resetPending = none ∧ run.loading = none ∧ (loading 0).loading.isSome = true
      ∧ (({ run with faults := FaultUnit.reset.withList [⟨.heightLost, 3, true, true, 1, 7, 7⟩] } : State).faults.list[0]?).isSome
        = true) := by
  decide +kernel

/-- The three refusals, and START from a CONFIG state with every record in order, with every input lost, with a handle pulled and a
door open, and at the lock speed of a T3 that has it within standstill. -/
theorem witness_StartTaken :
    let lost := { config with signals := Vector.ofFn fun i : Fin 96 =>
      if i.val = 3 ∨ i.val = 26 then fresh 0 else { fresh 0 with status := .lost } }
    let pulled := { config with
      doors := config.doors.set 1 { (config.door 1) with state := .openState }, signals := config.signals.set 32 (fresh 1) }
    let started := fun s : State => after (exec (.start 5 [0]) s) s
    (run.part ≠ .config) ∧ (State.reset.part = .config ∧ (State.reset.tab 0).valid = false)
      ∧ (config.part = .config ∧ (∀ t : Fin 9, (config.tab t).valid = true) ∧ config.motion.standstill = true
        ∧ config.kneel.state = .level ∧ config.DoorsHeld ∧ config.FaultsSound ∧ config.rear.latch = false
        ∧ config.faults.list.length ≤ 5 ∧ (started config).part = .run
        ∧ config.drive.torque = config.joint.torque)
      ∧ ({ config with motion := Motion.reset } : State).motion.standstill = false
      ∧ (lost.usable .frontAngle = false ∧ lost.usable .rearActual = false ∧ lost.usable .jointAngle = false
        ∧ lost.usable .driverDecel = false ∧ (∀ c : Fin 6, lost.usable (.height c) = false ∧ lost.usable (.bellows c) = false)
        ∧ (∀ d : Fin 4, lost.usable (.doorPosition d) = false) ∧ (started lost).air.level = .unknown
        ∧ ((started lost).door 0).state = .fault)
      ∧ (pulled.usable (.doorEmergency 1) = true ∧ pulled.value (.doorEmergency 1) ≠ 0 ∧ (pulled.door 1).state = .openState
        ∧ ((started pulled).door 1).state = .emergency ∧ (started pulled).rear.state = .frozen) := by decide +kernel

/-- The refusals; a hold that is CONFIRMED, one that applies, and the common case: RELEASED at standstill with an empty set, the
axles short of the confirming pressure and at it. -/
theorem witness_StopTaken :
    let free := { run with holdSet := [], hold := Hold.reset, drive := { inhibit := false, torque := 1000 } }
    let released := { free with hold := { Hold.reset with state := .released } }
    let short := { released with signals := run.signals.set 20 (fresh 269) }
    config.part ≠ .run ∧ run.part = .run ∧ run.motion.standstill = true ∧ run.hold.state = .confirmed
      ∧ ({ run with hold := { run.hold with state := .applying } } : State).hold.state = .applying
      ∧ ({ run with motion := Motion.reset } : State).motion.standstill = false
      ∧ (released.part = .run ∧ released.motion.standstill = true ∧ released.hold.state = .released
        ∧ released.claims .maint = false ∧ confirmMet released = true ∧ confirmMet short = false)
      ∧ (free.hold.state = .pending ∧ released.kneel.state = .level ∧ (kneelIn .knelt 0).kneel.state ≠ .level)
      ∧ ({ released with hold := { run.hold with state := .releasing } } : State).hold.state = .releasing := by decide +kernel

/-- A claim there and absent; a RELEASED hold on a moving bus, at standstill with the axles short of the confirming pressure and at
it, a RELEASING one; MAINT in STOPPING; the last claim, in each hold state and with the drive asked, and one of two removed. -/
theorem witness_ClaimsAddedAndRemoved :
    let released := { run with holdSet := [], hold := { Hold.reset with state := .released } }
    let short := { released with signals := run.signals.set 20 (fresh 269) }
    let stopping := { released with part := .stopping }
    (run.claims .driver = true ∧ config.claims .driver = false ∧ config.part = .config)
      ∧ (let s := { released with motion := { run.motion with standstill := false } }
         s.claims .driver = false ∧ s.part ≠ .config ∧ s.hold.state = .released ∧ s.motion.standstill = false)
      ∧ (released.claims .driver = false ∧ released.motion.standstill = true ∧ confirmMet released = true
        ∧ released.part = .run ∧ released.kneel.state ≠ .waitHold ∧ confirmMet short = false)
      ∧ (({ released with hold := { run.hold with state := .releasing } } : State).hold.state = .releasing)
      ∧ (stopping.part = .stopping ∧ stopping.claims .maint = false ∧ confirmMet stopping = true)
      ∧ run.holdSet.filter (fun c => decide (c.holder ≠ .driver)) = [] ∧ run.claims .maint = false ∧ run.part ≠ .stopping
      ∧ ({ run with hold := { run.hold with state := .pending } } : State).hold.state = .pending
      ∧ ({ run with holdSet := [⟨.maint, 800⟩, ⟨.driver, 900⟩] } : State).claims .maint = true
      ∧ driveAsked run = false
      ∧ (let s := fun h : HoldState => ({ run with holdSet := [⟨.maint, 800⟩], hold := { run.hold with state := h } } : State)
         let asked := fun h : HoldState => ({ s h with signals := run.signals.set 18 (fresh 50) } : State)
         let removed := fun s : State => (after (exec (.holdRemove 5 [0]) s) s).hold.state
         (s .pending).claims .maint = true ∧ removed (s .pending) = .released ∧ removed (s .applying) = .applying
           ∧ driveAsked (asked .applying) = true ∧ removed (asked .applying) = .releasing
           ∧ removed (asked .confirmed) = .releasing ∧ removed (asked .released) = .released
           ∧ removed (asked .releasing) = .releasing) := by decide +kernel

theorem witness_FaultsAndCountersCleared :
    (let s := { run with
      faults := FaultUnit.reset.withList [⟨.cornerTimeout, 3, true, false, 1, 7, 7⟩, ⟨.heightLost, 3, false, false, 1, 7, 7⟩] }
    s.resetPending = none ∧ s.FaultsSound ∧ s.motion.standstill = true)
    ∧ (stationOk 5 = true ∧ run.resetPending = none) := by
  decide +kernel

theorem witness_ResetRequested :
    let full := { run with vehicle := { run.vehicle with tx := List.replicate 32 ⟨resetNotice, .own, false⟩ } }
    let moving := { run with motion := { run.motion with standstill := false } }
    (run.resetPending = none ∧ run.vehicle.tx.length < 32 ∧ run.motion.standstill = true)
      ∧ (full.motion.standstill = true ∧ 32 ≤ full.vehicle.tx.length) ∧ moving.part ≠ .config ∧ moving.motion.standstill = false := by
  decide +kernel

/-- Masks at both ends of their range and past them; CONFIG; a bus at the pre-release speed and past it; standstill, with a LOCKED
door in the mask, one outside it and one already pending, the hold CONFIRMED with the gate met and not, and not CONFIRMED; a kneel in
WAIT-HOLD and a gate that names KNELT. -/
theorem witness_DoorsReleased :
    let slow := rolling 300
    let fast := rolling 301
    let lost := { run with motion := Motion.reset }
    let pending := { run with doors := run.doors.set 1 { (run.door 1) with pendingRelease := true } }
    let gated := fun requireTrue : Val =>
      ({ run with tables := run.tables.set 7 { bank doors with active := (doors.map toVal).set (11 * 2 + 1) requireTrue } } : State)
    let applying := { run with hold := { run.hold with state := .applying } }
    let released := fun s : State => after (exec (.doorRelease 15) s) s
    (¬ (1 ≤ (0#16).toInt ∧ (0#16).toInt ≤ 15)) ∧ (¬ (1 ≤ (16#16).toInt ∧ (16#16).toInt ≤ 15))
      ∧ ((1 ≤ (15#16).toInt ∧ (15#16).toInt ≤ 15) ∧ config.part ≠ .run)
      ∧ (fast.part = .run ∧ fast.motion.standstill = false ∧ fast.motion.status = .valid
        ∧ fast.param 8 20 < fast.motion.speed)
      ∧ (lost.part = .run ∧ lost.motion.standstill = false ∧ lost.motion.status = .lost)
      ∧ (slow.part = .run ∧ slow.motion.status = .valid ∧ slow.motion.speed ≤ slow.param 8 20)
      ∧ (run.part = .run ∧ run.motion.standstill = true ∧ (run.door 0).state = .locked ∧ (run.door 0).pendingRelease = false)
      ∧ ((1#16).getLsbD 2 = false ∧ (run.door 2).state = .locked)
      ∧ ((pending.door 1).state = .locked ∧ (pending.door 1).pendingRelease = true)
      ∧ ((doorIn 3 .openState 0).door 3).state ≠ .locked
      ∧ (run.HoldSound ∧ run.kneel.state ≠ .waitHold ∧ ((released run).door 0).state = .opening
        ∧ ((released run).door 2).state = .released ∧ (gated 8).HoldSound ∧ ((released (gated 8)).door 2).state = .releaseWait
        ∧ applying.HoldSound ∧ ((released applying).door 2).state = .releaseWait)
      ∧ ((kneelIn .waitHold 0).HoldSound ∧ ((kneelIn .waitHold 0).raw 7 (11 * 2 + 1)).getLsbD 5 = false
        ∧ ((kneelIn .waitHold 0).raw 7 (11 * 2 + 2)).getLsbD 5 = false ∧ ((gated 32).raw 7 (11 * 2 + 1)).getLsbD 5 = true) := by
  decide +kernel

theorem witness_DoorsClosed :
    (¬ (1 ≤ (0#16).toInt ∧ (0#16).toInt ≤ 15)) ∧ (1 ≤ (1#16).toInt ∧ (15#16).toInt ≤ 15) ∧ config.part = .config
      ∧ run.part ≠ .config ∧ (15#16).getLsbD 3 = true ∧ (1#16).getLsbD 3 = false := by decide +kernel

/-- Each state of the kneel; a hold CONFIRMED, APPLYING and RELEASED; corners at their kneel targets already, without and with the
drive asked, and at ride height. -/
theorem witness_KneelRequestsTaken :
    let released := { run with holdSet := [], hold := { Hold.reset with state := .released } }
    let low := { run with corners := run.corners.map (fun k => { k with height := -60 }) }
    let asked := { low with signals := run.signals.set 18 (fresh 50) }
    let down := { kneelIn .knelt 0 with corners := low.corners }
    ((kneelIn .waitHold 0).kneel.state = .waitHold ∧ (kneelIn .raising 0).kneel.state = .raising
      ∧ config.kneel.state = .level ∧ config.part ≠ .run
      ∧ (run.kneel.state = .level ∧ lowerTests run = .none ∧ run.hold.state = .confirmed ∧ loweringDone run = false)
      ∧ (let s := { run with hold := { run.hold with state := .applying } }
         lowerTests s = .none ∧ s.hold.state = .applying)
      ∧ (lowerTests released = .none ∧ released.hold.state = .released ∧ released.claims .kneel = false
        ∧ confirmMet released = true ∧ confirmMet { released with signals := run.signals.set 20 (fresh 269) } = false)
      ∧ (lowerTests low = .none ∧ loweringDone low = true ∧ driveAsked low = false)
      ∧ (lowerTests asked = .none ∧ loweringDone asked = true ∧ asked.param 5 34 = 1 ∧ driveAsked asked = true
        ∧ raisingDone asked = false))
    ∧ (((kneelIn .lowering 0).kneel.state = .lowering ∧ raisingDone (kneelIn .lowering 0) = true)
      ∧ down.kneel.state = .knelt ∧ raisingDone down = false) := by decide +kernel

/-- A full list of 32 ACTIVE entries, with its first entry INACTIVE when `free`. -/
def fullList (free : Bool) : List FaultEntry :=
  (if free then [⟨.strap, 0, false, false, 1, 0, 0⟩] else [⟨.strap, 0, true, true, 1, 0, 0⟩])
    ++ (List.range 31).map (fun n => ⟨.heightLost, n, true, true, 1, 0, 0⟩)

theorem witness_FaultRaisedAndEnded :
    ((∃ e ∈ fullList true, e.code = .heightLost ∧ e.subject = 30)
      ∧ (∀ e ∈ fullList true, ¬ (e.code = .linkV ∧ e.subject = 0)) ∧ 32 ≤ (fullList true).length
      ∧ (fullList true = [] ++ ⟨.strap, 0, false, false, 1, 0, 0⟩ :: (fullList true).drop 1)
      ∧ (∀ e ∈ fullList false, ¬ (e.code = .linkV ∧ e.subject = 0)) ∧ (∀ e ∈ fullList false, e.active = true)
      ∧ 32 ≤ (fullList false).length ∧ ((fullList false).take 31).length < 32)
    ∧ (let a : FaultEntry := ⟨.heightLost, 3, true, true, 1, 7, 7⟩
    let b : FaultEntry := ⟨.cornerTimeout, 3, true, true, 1, 7, 7⟩
    let s := { run with faults := FaultUnit.reset.withList [a, b] }
    s.FaultsSound ∧ s.faults.list = [] ++ a :: [b] ∧ s.faults.list = [a] ++ b :: [] ∧ a.code.latched = false
      ∧ b.code.latched = true ∧ run.faults.list = []) := by
  decide +kernel

theorem witness_FillSlotsGranted :
    let s := { run with corners := Vector.replicate 6 { Corner.reset with valve := .waitFill, error := 20 } }
    (slotsHeld s : Int) ≤ s.param 5 19 ∧ waiting s ≠ [] := by decide +kernel

/-- A safe state with a command to take, from which a step answers: the hypotheses of StepKeepsFrames, StepKeepsFaults,
StepKeepsHold, StepKeepsTables, StepKeepsRear and StepKeepsSlots together. -/
theorem witness_StepKeeps :
    let s := { run with pending := [.kneelLower] }
    s.Safe ∧ step s = .next (after (step s) s) ∧ (after (step s) s).kneel.state = .lowering := by
  intro s
  have ports : s.QueuesBounded ∧ s.FramesConserved := by decide +kernel
  have faults : s.FaultsSound ∧ s.LatchedActive := by decide +kernel
  have claims : s.HoldSound ∧ s.DoorsHeld ∧ s.KneelHeld := by decide +kernel
  have tables : s.TablesSound := by decide +kernel
  have rest : s.RunSound ∧ s.RearBounded ∧ s.SlotsSound := by decide +kernel
  exact ⟨⟨ports.1, ports.2, faults.1, faults.2, claims.1, claims.2.1, claims.2.2, tables, rest⟩, rfl, by decide +kernel⟩

end Sys2Proof.Tests
end

section
/-! PROOFS. The ports through every operation: the queues stay within their places and the route conservation law holds (R5, R15,
R28). `State.PortsSound` is that condition; one lemma per operation says that it is kept. -/

namespace Sys2Proof.Machine

set_option Elab.async false

/-! ### The condition, and what keeps it -/

/-- Both ports within their places and under the route conservation law. -/
def State.PortsSound (s : State) : Prop := ∀ p : Port, (s.port p).Bounded ∧ (s.port p).Conserved

theorem State.portsSound_iff (s : State) : s.PortsSound ↔ s.QueuesBounded ∧ s.FramesConserved := by
  constructor
  · intro h
    exact ⟨⟨(h .vehicle).1, (h .chassis).1⟩, ⟨(h .vehicle).2, (h .chassis).2⟩⟩
  · rintro ⟨⟨vb, cb⟩, ⟨vc, cc⟩⟩ p
    cases p
    · exact ⟨vb, vc⟩
    · exact ⟨cb, cc⟩

variable {s t : State}

theorem State.PortsSound.congr (h : s.PortsSound) (hv : t.vehicle = s.vehicle := by rfl)
    (hc : t.chassis = s.chassis := by rfl) : t.PortsSound := by
  intro p
  cases p
  · exact (show t.port .vehicle = s.port .vehicle from hv) ▸ h .vehicle
  · exact (show t.port .chassis = s.port .chassis from hc) ▸ h .chassis

/-- An operation that may change no port keeps them sound. -/
theorem State.PortsSound.of_changes {l : List Fld} (h : s.PortsSound) (k : Changes l s t)
    (hv : .vehicle ∉ l := by decide) (hc : .chassis ∉ l := by decide) : t.PortsSound :=
  h.congr (k.field .vehicle hv) (k.field .chassis hc)

theorem State.PortsSound.ite {p : Prop} [Decidable p] (hs : s.PortsSound) (ht : t.PortsSound) :
    (if p then s else t).PortsSound := by
  split
  · exact hs
  · exact ht

theorem State.PortsSound.foldl {α : Type} {f : State → α → State}
    (hf : ∀ (x : State) (a : α), x.PortsSound → (f x a).PortsSound) {as : List α} (h : s.PortsSound) : (as.foldl f s).PortsSound := by
  induction as generalizing s with
  | nil => exact h
  | cons a as ih => exact ih (hf s a h)

theorem State.PortsSound.setPort {p : Port} {x : PortState} (h : s.PortsSound) (hb : x.Bounded) (hc : x.Conserved) :
    (s.setPort p x).PortsSound := by
  intro q
  by_cases hq : q = p
  · subst hq
    rw [State.setPort_port]
    exact ⟨hb, hc⟩
  · rw [State.setPort_port_other s hq]
    exact h q

/-! ### Frames offered (R15) -/

section
variable {p : Port} {k : Offer} {f : Frame} {b : Bool}

theorem offerFrame_portsSound (h : s.PortsSound) : (offerFrame p k f b s).PortsSound := by
  intro q
  by_cases hq : q = p
  · subst hq
    exact ⟨offerFrame_bounded q k f b s (h q).1, offerFrame_conserved q k f b s (h q).2⟩
  · rw [offerFrame_port_other p q hq]
    exact h q

theorem sendNotice_portsSound {k : NoticeKind} {vals : List Int} (h : s.PortsSound) : (sendNotice k vals s).PortsSound :=
  .ite h (offerFrame_portsSound h.congr)

theorem sendReply_portsSound {dst : BitVec 6} {ix : Fin 50} {vals : List Val} (h : s.PortsSound) :
    (sendReply dst ix vals b s).PortsSound := offerFrame_portsSound h.congr

theorem scheduleCycle_portsSound (h : s.PortsSound) : (scheduleCycle s).PortsSound := by
  refine .ite (.foldl (fun x v hx => ?_) h) h
  unfold buildItem
  split
  · exact offerFrame_portsSound hx.congr
  · exact hx
end

/-! ### The fault list -/

section
variable {c : FaultCode} {n : Nat}

theorem listFault_portsSound (h : s.PortsSound) : (listFault c n s).PortsSound :=
  (sendNotice_portsSound (h.congr (t := s.setFaults _))).of_changes (reportRemoved_changes _ _)

theorem listEnd_portsSound (h : s.PortsSound) : (listEnd c n s).PortsSound := by
  unfold listEnd
  split
  · exact .ite (.ite h.congr (sendNotice_portsSound h.congr)) h
  · exact h
end

/-! ### Axle pressures and the hold -/

theorem endSaturation_portsSound {a : Fin 3} (h : s.PortsSound) : (endSaturation s a).PortsSound :=
  .ite (.ite h.congr (listEnd_portsSound h.congr)) h

theorem resolveAxles_portsSound (h : s.PortsSound) : (resolveAxles s).PortsSound :=
  .ite (.foldl (fun _ _ hx => endSaturation_portsSound hx) (h.of_changes (resolvePressures_changes s))) h

theorem resolveIfHeld_portsSound {old : Hold} (h : s.PortsSound) : (resolveIfHeld old s).PortsSound :=
  .ite h (resolveAxles_portsSound h)

theorem brakeLevelChanged_portsSound (h : s.PortsSound) : (brakeLevelChanged s).PortsSound :=
  .ite (resolveAxles_portsSound h.congr) h

theorem satCycle_portsSound {a : Fin 3} (h : s.PortsSound) : (satCycle a s).PortsSound :=
  .ite (.ite (.ite (.ite (listFault_portsSound h.congr) h.congr) h) (endSaturation_portsSound h)) h

theorem saturationCycle_portsSound (h : s.PortsSound) : (saturationCycle s).PortsSound :=
  .foldl (fun _ _ hx => satCycle_portsSound hx) h

section
variable {cause : HoldCause}

theorem enterHold_portsSound {new : HoldState} (h : s.PortsSound) : (enterHold new cause s).PortsSound := by
  have h2 : (if new = .confirmed then dropClaim .startup (s.setHold (holdAt s new)) else s.setHold (holdAt s new)).PortsSound :=
    .ite h.congr h.congr
  exact .ite (listEnd_portsSound (sendNotice_portsSound h2)) (sendNotice_portsSound h2)

theorem releaseTest_portsSound (h : s.PortsSound) : (releaseTest cause s).PortsSound := .ite (enterHold_portsSound h) h

theorem confirmTest_portsSound (h : s.PortsSound) : (confirmTest s).1.PortsSound := by
  unfold confirmTest
  split
  · exact .ite (releaseTest_portsSound (enterHold_portsSound h)) (enterHold_portsSound h)
  · exact h

theorem applyHold_portsSound (h : s.PortsSound) : (applyHold cause s).1.PortsSound :=
  confirmTest_portsSound (enterHold_portsSound h)
end

theorem holdOnAdd_portsSound (h : s.PortsSound) : (holdOnAdd s).1.PortsSound := by
  unfold holdOnAdd
  split
  · split
    · split
      · exact applyHold_portsSound h
      · exact enterHold_portsSound h
    · exact applyHold_portsSound h
    all_goals exact h
  · exact h

theorem addClaim_portsSound {k : Holder} (h : s.PortsSound) : (addClaim k s).1.PortsSound := by
  unfold addClaim
  split
  · exact h
  · exact resolveIfHeld_portsSound (holdOnAdd_portsSound (h.of_changes (joinClaim_changes k s)))

theorem holdOnRemove_portsSound (h : s.PortsSound) : (holdOnRemove s).PortsSound := by
  unfold holdOnRemove
  split
  · split
    · exact enterHold_portsSound h
    · exact releaseTest_portsSound h
    · exact releaseTest_portsSound h
    all_goals exact h
  · exact h

theorem removeClaim_portsSound {k : Holder} (h : s.PortsSound) : (removeClaim k s).PortsSound :=
  .ite (resolveIfHeld_portsSound (holdOnRemove_portsSound (h.of_changes (dropClaim_changes k s)))) h

theorem holdOnStandstill_portsSound (h : s.PortsSound) : (holdOnStandstill s).1.PortsSound := by
  unfold holdOnStandstill
  split
  · split
    · exact resolveAxles_portsSound (applyHold_portsSound h)
    · split
      · exact h
      · exact resolveAxles_portsSound (applyHold_portsSound h)
    all_goals exact h
  · exact h

theorem holdOnDrive_portsSound (h : s.PortsSound) : (holdOnDrive s).1.PortsSound := by
  unfold holdOnDrive
  split
  · split
    · exact resolveIfHeld_portsSound (releaseTest_portsSound h)
    · exact resolveIfHeld_portsSound (releaseTest_portsSound h)
    · split
      · exact h
      · exact resolveAxles_portsSound (applyHold_portsSound h)
    all_goals exact h
  · exact h

theorem holdOnActual_portsSound (h : s.PortsSound) : (holdOnActual s).1.PortsSound := by
  unfold holdOnActual
  split
  · exact resolveIfHeld_portsSound (confirmTest_portsSound h)
  · exact h

theorem holdCycle_portsSound (h : s.PortsSound) : (holdCycle s).PortsSound := by
  unfold holdCycle
  refine .ite ?_ h
  split
  · exact .ite h (.ite (sendNotice_portsSound (listFault_portsSound h.congr)) h.congr)
  · exact resolveAxles_portsSound (.ite (enterHold_portsSound h.congr) h.congr)
  all_goals exact h

theorem brakeSwap_portsSound (h : s.PortsSound) : (brakeSwap s).1.PortsSound :=
  (releaseTest_portsSound (confirmTest_portsSound h.congr)).of_changes (resolvePressures_changes _)

theorem brakeConfig_portsSound (h : s.PortsSound) : (brakeConfig s).PortsSound := by
  have h2 : (if s.hold.state = .pending then s.setHold Hold.reset
      else holdNotice .pending s.hold.state .stop (s.setHold Hold.reset)).PortsSound :=
    .ite h.congr (sendNotice_portsSound h.congr)
  exact .foldl (fun _ _ hx => listEnd_portsSound hx) (listEnd_portsSound (listEnd_portsSound h2.congr))

/-! ### Running gear -/

theorem rearLevelChanged_portsSound (h : s.PortsSound) : (rearLevelChanged s).PortsSound := by
  have h1 : (rearMotion s).PortsSound := h.of_changes (rearMotion_changes s)
  exact .ite h1 (.ite h1.congr (listEnd_portsSound h1.congr))

theorem rearConfig_portsSound (h : s.PortsSound) : (rearConfig s).PortsSound :=
  listEnd_portsSound (listEnd_portsSound (listEnd_portsSound h.congr))

theorem rearStart_portsSound (h : s.PortsSound) : (rearStart s).PortsSound := by
  have h2 : (evalLatch (s.setRear { s.rear with state := .active, trackTimer := 0 })).PortsSound :=
    (h.congr (t := s.setRear _)).of_changes (evalLatch_changes _)
  exact ((State.PortsSound.ite h2.congr h2).of_changes (retarget_changes _)).of_changes (resolveRear_changes _)

theorem reportGuard_portsSound {old : Nat} (h : s.PortsSound) : (reportGuard old s).PortsSound := by
  have h1 : (resolveAxles s).PortsSound := resolveAxles_portsSound h
  exact .ite h (sendNotice_portsSound (.ite (listFault_portsSound h1) (.ite (listEnd_portsSound h1) h1)))

theorem deriveDamp_portsSound (h : s.PortsSound) : (deriveTorque (damp s)).PortsSound :=
  (h.of_changes (damp_changes s)).of_changes (deriveTorque_changes _)

theorem jointWork_portsSound (h : s.PortsSound) : (jointWork s).PortsSound :=
  reportGuard_portsSound (deriveDamp_portsSound (h.of_changes (evalGuard_changes s)))

theorem jointEvent_portsSound (h : s.PortsSound) : (jointEvent s).PortsSound := .ite (jointWork_portsSound h) h

theorem jointSampled_changes (s : State) : Changes [.joint] s (jointSampled s) := by
  unfold jointSampled
  split
  · exact State.setJoint_changes s _
  · exact State.setJoint_changes s _

theorem jointStatus_changes (s : State) : Changes [.joint] s (jointStatus s) := by
  unfold jointStatus
  split
  · exact Changes.refl _ s
  · exact Changes.refl _ s
  all_goals exact State.setJoint_changes s _

theorem jointReport_portsSound {accepted : Bool} (h : s.PortsSound) : (jointReport accepted s).PortsSound :=
  .ite (jointWork_portsSound (.ite (h.of_changes (jointSampled_changes s)) (h.of_changes (jointStatus_changes s)))) h

theorem jointCycle_portsSound (h : s.PortsSound) : (jointCycle s).PortsSound := by
  have h1 : (fallTest s).PortsSound := .ite (.ite h.congr h.congr) h.congr
  exact .ite (.ite h1 (reportGuard_portsSound (deriveDamp_portsSound h1))) h

theorem jointStart_portsSound (h : s.PortsSound) : (jointStart s).PortsSound :=
  reportGuard_portsSound (deriveDamp_portsSound (.ite ((h.congr (t := s.setJoint _)).of_changes (evalGuard_changes _)) h.congr))

theorem jointConfig_portsSound (h : s.PortsSound) : (jointConfig s).PortsSound :=
  listEnd_portsSound (reportGuard_portsSound h.congr)

/-! ### Faults with the level reports -/

theorem reportLevels_portsSound {old : Levels} (h : s.PortsSound) : (reportLevels old s).PortsSound := by
  have steering : (reportSteering old s).PortsSound := .ite h (rearLevelChanged_portsSound h)
  have joint : (reportJoint old (reportSteering old s)).PortsSound := .ite steering (jointEvent_portsSound steering)
  have height : (reportHeight old (reportJoint old (reportSteering old s))).PortsSound :=
    .ite joint (joint.of_changes (heightLevelChanged_changes _))
  exact .ite height (brakeLevelChanged_portsSound height)

section
variable {c : FaultCode} {n : Nat}

theorem raiseFault_portsSound (h : s.PortsSound) : (raiseFault c n s).PortsSound :=
  reportLevels_portsSound (listFault_portsSound h)

theorem endCause_portsSound (h : s.PortsSound) : (endCause c n s).PortsSound :=
  reportLevels_portsSound (listEnd_portsSound h)

theorem raiseIfLost_portsSound {r : Role} (h : s.PortsSound) : (raiseIfLost r c s).PortsSound :=
  .ite h (raiseFault_portsSound h)
end

theorem trackWork_portsSound (h : s.PortsSound) : (trackWork s).PortsSound :=
  .ite (raiseFault_portsSound h.congr) (.ite (endCause_portsSound h.congr) h.congr)

theorem rearCycle_portsSound (h : s.PortsSound) : (rearCycle s).PortsSound :=
  .ite h ((trackWork_portsSound h).of_changes (stepCommand_changes _))

theorem healCleared_portsSound {l : List FaultEntry} (h : s.PortsSound) : (healCleared l s).PortsSound := by
  induction l generalizing s with
  | nil => exact h
  | cons e es ih => exact ih (.ite (sendNotice_portsSound h) h)

theorem clearFaults_portsSound (h : s.PortsSound) : (clearFaults s).PortsSound := by
  have healed : (if s.motion.standstill then healCleared s.faults.list s else s).PortsSound :=
    .ite (healCleared_portsSound h) h
  exact .foldl (fun _ _ hx => .ite hx.congr hx) (reportLevels_portsSound healed.congr)

/-! ### The air record and the corners -/

theorem evalAir_portsSound (h : s.PortsSound) : (evalAir s).PortsSound := by
  have h1 : (withdraw (s.setAir (airAfter s))).PortsSound := h.congr
  have h2 := State.PortsSound.ite (p := s.air.level = .reserve) (endCause_portsSound (c := .reservoirLow) (n := 0) h1)
    (.ite (p := s.air.level = .unknown) (endCause_portsSound (c := .reservoirLost) (n := 0) h1) h1)
  exact .ite h1 (.ite (raiseFault_portsSound h2) (.ite (raiseFault_portsSound h2) h2))

theorem airReport_portsSound (h : s.PortsSound) : (airReport s).PortsSound := .ite (evalAir_portsSound h) h

theorem airStart_portsSound (h : s.PortsSound) : (airStart s).PortsSound :=
  .ite (raiseFault_portsSound h.congr) (.ite (raiseFault_portsSound h.congr) h.congr)

theorem airConfig_portsSound (h : s.PortsSound) : (airConfig s).PortsSound := endCause_portsSound (endCause_portsSound h.congr)

section
variable {c : Fin 6}

theorem timeoutTest_portsSound (h : s.PortsSound) : (timeoutTest c s).PortsSound :=
  .ite (.ite h.congr (listEnd_portsSound (listFault_portsSound h.congr))) h

theorem cornerCycle_portsSound (h : s.PortsSound) : (cornerCycle c s).PortsSound := by
  have h1 : (timeoutTest c (s.setCorner c (cornerTimers s (s.corner c)))).PortsSound := timeoutTest_portsSound h.congr
  exact h1.congr

theorem cornersCycle_portsSound (h : s.PortsSound) : (cornersCycle s).PortsSound := by
  have h1 : (cornerIx.foldl (fun x c => cornerCycle c x) s).PortsSound := .foldl (fun _ _ hx => cornerCycle_portsSound hx) h
  exact .ite (h1.of_changes (arbitrate_changes _)) h

theorem heightReport_portsSound {a w : Bool} (h : s.PortsSound) : (heightReport c a w s).PortsSound :=
  .ite (.ite (listEnd_portsSound h.congr) (.ite (listFault_portsSound h.congr) h)) h

theorem bellowsReport_portsSound {w : Bool} (h : s.PortsSound) : (bellowsReport c w s).PortsSound := by
  have h1 : (s.setCorner c (suspendTest s c (s.corner c))).PortsSound := h.congr
  exact .ite
    (.ite ((listEnd_portsSound h.congr).of_changes (reload_changes _ _))
      ((State.PortsSound.ite (listFault_portsSound h1) h1).of_changes (reload_changes _ _)))
    h

theorem reportLoads_portsSound {old : Vector AxleLoad 3} (h : s.PortsSound) : (reportLoads old s).PortsSound :=
  .ite h (resolveAxles_portsSound h)

theorem cornersStart_portsSound (h : s.PortsSound) : (cornersStart s).PortsSound :=
  .foldl (fun _ _ hx => .ite hx (listFault_portsSound hx))
    (.foldl (fun _ _ hx => .ite hx.congr (listFault_portsSound hx.congr)) h.congr)

theorem cornersSwap_portsSound (h : s.PortsSound) : (cornersSwap s).PortsSound := by
  have h1 : (withdraw (s.setCorners (Vector.ofFn fun c => swapCorner s c s.corners[c]))).PortsSound := h.congr
  have h2 := h1.of_changes (shedSlots_changes 6 _)
  exact State.PortsSound.of_changes (.foldl (fun _ _ hx => hx.congr) h2.congr) (arbitrate_changes _)

theorem cornersConfig_portsSound (h : s.PortsSound) : (cornersConfig s).PortsSound :=
  .foldl (fun _ _ hx => listEnd_portsSound (listEnd_portsSound (listEnd_portsSound hx))) h.congr
end

/-! ### Kneel -/

section
variable {new old : KneelState} {cause : KneelCause} {n : Nat}

theorem kneelNotice_portsSound (h : s.PortsSound) : (kneelNotice new old cause n s).PortsSound := sendNotice_portsSound h

/-- Every entry of the kneel record into a state: the record, the corners, the notice. -/
theorem kneelEntry_portsSound {x : Kneel} (h : s.PortsSound) :
    (kneelNotice new old cause n (cornersKneel (s.setKneel x))).PortsSound :=
  kneelNotice_portsSound ((h.congr (t := s.setKneel x)).of_changes (cornersKneel_changes _))

theorem toLevel_portsSound (h : s.PortsSound) : (toLevel cause s).PortsSound := by
  unfold toLevel
  refine listEnd_portsSound (kneelNotice_portsSound (State.PortsSound.of_changes ?_ (cornersKneel_changes _)))
  exact removeClaim_portsSound h.congr

theorem completeRaising_portsSound (h : s.PortsSound) : (completeRaising s).PortsSound := .ite (toLevel_portsSound h) h

theorem toRaising_portsSound (h : s.PortsSound) : (toRaising cause s).PortsSound :=
  completeRaising_portsSound (kneelEntry_portsSound h)

theorem driveRaise_portsSound (h : s.PortsSound) : (driveRaise s).PortsSound := .ite (toRaising_portsSound h) h

theorem toKnelt_portsSound (h : s.PortsSound) : (toKnelt cause s).PortsSound := driveRaise_portsSound (kneelEntry_portsSound h)

theorem completeLowering_portsSound (h : s.PortsSound) : (completeLowering s).PortsSound := .ite (toKnelt_portsSound h) h

theorem toLowering_portsSound (h : s.PortsSound) : (toLowering cause s).PortsSound :=
  completeLowering_portsSound (kneelEntry_portsSound h)

theorem kneelCompletion_portsSound (h : s.PortsSound) : (kneelCompletion s).PortsSound :=
  .ite (completeRaising_portsSound (completeLowering_portsSound h)) h

theorem refuseKneel_portsSound {r : KneelRefusal} (h : s.PortsSound) : (refuseKneel r s).PortsSound :=
  sendNotice_portsSound h.congr

theorem acceptKneel_portsSound (h : s.PortsSound) : (acceptKneel s).1.PortsSound := by
  have h1 := addClaim_portsSound (k := .kneel) h
  unfold acceptKneel
  dsimp only
  split
  · exact toLowering_portsSound (kneelEntry_portsSound h1)
  · exact kneelEntry_portsSound h1

theorem kneelLower_portsSound (h : s.PortsSound) : (kneelLower s).1.PortsSound := by
  unfold kneelLower
  split
  · split
    · exact acceptKneel_portsSound h
    · exact refuseKneel_portsSound h
  · exact refuseKneel_portsSound h
  all_goals exact h

theorem kneelRaise_portsSound (h : s.PortsSound) : (kneelRaise s).PortsSound := by
  unfold kneelRaise
  split
  · exact toLevel_portsSound h
  · exact toRaising_portsSound h
  · exact toRaising_portsSound h
  all_goals exact h

theorem kneelMoving_portsSound (h : s.PortsSound) : (kneelMoving s).PortsSound := by
  unfold kneelMoving
  split
  · exact toRaising_portsSound h
  · exact toRaising_portsSound h
  · exact toRaising_portsSound h
  all_goals exact h

theorem kneelDoors_portsSound (h : s.PortsSound) : (kneelDoors s).PortsSound := .ite (toRaising_portsSound h) h

theorem kneelConfirmed_portsSound (h : s.PortsSound) : (kneelConfirmed s).PortsSound := .ite (toLowering_portsSound h) h

theorem kneelDrive_portsSound (h : s.PortsSound) : (kneelDrive s).PortsSound := .ite (driveRaise_portsSound h) h

theorem raisingCycle_portsSound (h : s.PortsSound) : (raisingCycle s).PortsSound := by
  have h1 : (listFault .kneelTimeout 0 (s.setKneel { s.kneel with timer := s.kneel.timer + 1 })).PortsSound :=
    listFault_portsSound h.congr
  exact .ite (kneelNotice_portsSound h1.congr) h.congr

theorem kneelCycle_portsSound (h : s.PortsSound) : (kneelCycle s).PortsSound := by
  unfold kneelCycle
  refine .ite ?_ h
  split
  · exact .ite (toRaising_portsSound (listFault_portsSound h.congr)) h.congr
  · exact .ite h (raisingCycle_portsSound h)
  all_goals exact h

theorem kneelConfig_portsSound (h : s.PortsSound) : (kneelConfig s).PortsSound :=
  .ite h.congr (listEnd_portsSound (kneelNotice_portsSound (removeClaim_portsSound h.congr)))
end

/-! ### Doors -/

section
variable {d : Fin 4} {new : DoorState} {cause : DoorCause} {fault : Option FaultCode}

theorem doorLeft_portsSound {old : DoorState} (h : s.PortsSound) : (doorLeft d old s).PortsSound :=
  .ite (listEnd_portsSound (listEnd_portsSound h)) (.ite (listEnd_portsSound h) h)

theorem raiseDoor_portsSound (h : s.PortsSound) : (raiseDoor d fault s).PortsSound := by
  cases fault with
  | none => exact h
  | some c => exact listFault_portsSound h

theorem reportAllLocked_portsSound {before : Bool} (h : s.PortsSound) : (reportAllLocked before s).PortsSound := by
  have h1 := h.of_changes (resolveRear_changes s)
  exact .ite h (.ite (kneelDoors_portsSound h1) h1)

theorem moveDoor_portsSound (h : s.PortsSound) : (moveDoor d new cause fault s).PortsSound := by
  unfold moveDoor
  have h1 : (raiseDoor d fault (doorLeft d (s.door d).state (s.setDoor d ((s.door d).enter new cause)))).PortsSound :=
    raiseDoor_portsSound (doorLeft_portsSound h.congr)
  exact sendNotice_portsSound (reportAllLocked_portsSound (.ite (removeClaim_portsSound (listEnd_portsSound h1)) h1))

theorem changeDoor_portsSound (h : s.PortsSound) : (changeDoor d new cause fault s).1.PortsSound := by
  unfold changeDoor
  split
  · exact moveDoor_portsSound (addClaim_portsSound h)
  · exact moveDoor_portsSound h

theorem gateTest_portsSound (h : s.PortsSound) : (gateTest d s).PortsSound := by
  unfold gateTest
  refine .ite ?_ h
  split
  · exact moveDoor_portsSound h
  · exact moveDoor_portsSound h

theorem gateTests_portsSound (h : s.PortsSound) : (gateTests s).PortsSound :=
  .ite (.foldl (fun _ _ hx => gateTest_portsSound hx) h) h

theorem enterWait_portsSound (h : s.PortsSound) : (enterWait d cause s).1.PortsSound :=
  gateTest_portsSound (changeDoor_portsSound h)

theorem releaseRefused_portsSound {request : Int} {n : Nat} {r : ReleaseReason} (h : s.PortsSound) :
    (releaseRefused request n r s).PortsSound := sendNotice_portsSound h

theorem releaseLocked_portsSound (h : s.PortsSound) : (releaseLocked d s).1.PortsSound := by
  unfold releaseLocked
  dsimp only
  split
  · exact h
  · split
    · exact enterWait_portsSound h.congr
    · split
      · exact h.congr
      · exact releaseRefused_portsSound h

theorem releaseDoor_portsSound (h : s.PortsSound) : (releaseDoor d s).1.PortsSound := by
  unfold releaseDoor
  split
  · exact releaseRefused_portsSound h
  · split
    · exact releaseLocked_portsSound h
    · exact h

theorem closeOfOpen_portsSound (h : s.PortsSound) : (closeOfOpen d cause s).PortsSound := by
  have h1 : (if reversalLimit s d ≤ ((s.door d).reversals : Int) then
      endObstruction d (s.setDoor d { s.door d with reversals := 0 }) else s).PortsSound :=
    .ite (listEnd_portsSound h.congr) h
  exact .ite h1.congr (moveDoor_portsSound h1)

theorem closeDoor_portsSound (h : s.PortsSound) : (closeDoor d s).PortsSound := by
  unfold closeDoor
  split
  · exact h.congr
  · exact moveDoor_portsSound h
  · exact moveDoor_portsSound h
  · exact closeOfOpen_portsSound h
  all_goals exact h

theorem positionMoves_portsSound (h : s.PortsSound) : (positionMoves d s).1.PortsSound := by
  unfold positionMoves
  dsimp only
  split
  · exact moveDoor_portsSound h
  · split
    · exact h
    · exact changeDoor_portsSound h
  · exact .ite (moveDoor_portsSound h) h
  · exact .ite (moveDoor_portsSound h) h
  · exact .ite (moveDoor_portsSound h) h
  · exact .ite (moveDoor_portsSound h) h
  · exact .ite (moveDoor_portsSound h) h
  all_goals exact h

theorem positionLost_portsSound (h : s.PortsSound) : (positionLost d s).1.PortsSound := by
  unfold positionLost
  split
  · exact h
  · exact h
  · exact raiseDoor_portsSound h
  all_goals exact changeDoor_portsSound h

theorem followPosition_portsSound (h : s.PortsSound) : (followPosition d cause s).PortsSound := .ite h (changeDoor_portsSound h)

theorem positionReport_portsSound {was : Bool} (h : s.PortsSound) : (positionReport d was s).1.PortsSound := by
  unfold positionReport
  have h1 : (takePosition d s).PortsSound := h.congr
  split
  · dsimp only
    split
    · exact positionMoves_portsSound (listEnd_portsSound h1)
    · exact followPosition_portsSound h1
  · split
    · split
      · exact positionLost_portsSound h
      · exact followPosition_portsSound h
    · exact h

theorem press_portsSound (h : s.PortsSound) : (press d s).PortsSound := by
  unfold press
  split
  · exact .ite (moveDoor_portsSound h) h
  · exact h.congr
  · exact .ite (moveDoor_portsSound h) h
  all_goals exact h

theorem buttonReport_portsSound (h : s.PortsSound) : (buttonReport d s).PortsSound :=
  .ite (.ite (press_portsSound h.congr) h.congr) h

theorem handleMoves_portsSound {pulled : Bool} (h : s.PortsSound) : (handleMoves pulled d s).1.PortsSound := by
  unfold handleMoves
  split
  · split
    · exact h
    · exact changeDoor_portsSound h
  · split
    · exact changeDoor_portsSound h
    · exact h

theorem handleReport_portsSound (h : s.PortsSound) : (handleReport d s).1.PortsSound := by
  unfold handleReport
  split
  · dsimp only
    split
    · exact handleMoves_portsSound h.congr
    · exact h.congr
  · exact h

theorem edgeEvent_portsSound (h : s.PortsSound) : (edgeEvent d s).PortsSound := by
  unfold edgeEvent
  refine .ite ?_ h
  split
  · exact h.congr
  · exact moveDoor_portsSound h
  · exact moveDoor_portsSound h.congr
  all_goals exact h

theorem lineClear_portsSound (h : s.PortsSound) : (lineClear d s).PortsSound := .ite (moveDoor_portsSound h) h

theorem acceptLine_portsSound (h : s.PortsSound) : (acceptLine d s).PortsSound :=
  .ite (edgeEvent_portsSound h.congr) (.ite (lineClear_portsSound h.congr) h.congr)

theorem filterExpiry_portsSound (h : s.PortsSound) : (filterExpiry d s).PortsSound := .ite (acceptLine_portsSound h) h

theorem filterTick_portsSound (h : s.PortsSound) : (filterTick d s).PortsSound :=
  .ite (.ite (acceptLine_portsSound h) h.congr) h

theorem filterTicks_portsSound (h : s.PortsSound) : (filterTicks s).PortsSound :=
  .foldl (fun _ _ hx => filterTick_portsSound hx) h

theorem lockedMotion_portsSound {cleared set : Bool} (h : s.PortsSound) : (lockedMotion cleared set d s).1.PortsSound := by
  unfold lockedMotion
  split
  · exact changeDoor_portsSound h
  · split
    · exact h
    · split
      · exact enterWait_portsSound h
      · split
        · exact releaseRefused_portsSound h.congr
        · exact h

theorem doorMotion_portsSound {cleared set : Bool} (h : s.PortsSound) : (doorMotion cleared set d s).1.PortsSound := by
  unfold doorMotion
  split
  · exact lockedMotion_portsSound h
  · exact gateTest_portsSound h

theorem openingCycle_portsSound (h : s.PortsSound) : (openingCycle d s).PortsSound :=
  .ite (.ite (moveDoor_portsSound h.congr) h.congr) h

theorem openCycle_portsSound (h : s.PortsSound) : (openCycle d s).PortsSound :=
  .ite (.ite (closeOfOpen_portsSound h.congr) h.congr) h

theorem warningCycle_portsSound (h : s.PortsSound) : (warningCycle d s).PortsSound :=
  .ite (moveDoor_portsSound h.congr) h.congr

theorem closingCycle_portsSound (h : s.PortsSound) : (closingCycle d s).PortsSound :=
  .ite (moveDoor_portsSound h.congr) h.congr

theorem doorCycle_portsSound (h : s.PortsSound) : (doorCycle d s).PortsSound := by
  unfold doorCycle
  split
  · exact openingCycle_portsSound h
  · exact openingCycle_portsSound h
  · exact openCycle_portsSound h
  · exact warningCycle_portsSound h
  · exact closingCycle_portsSound h
  · exact gateTest_portsSound h
  all_goals exact h

theorem doorsCycle_portsSound (h : s.PortsSound) : (doorsCycle s).PortsSound :=
  .ite (.foldl (fun _ _ hx => doorCycle_portsSound hx) h) h

theorem doorConfig_portsSound (h : s.PortsSound) : (doorConfig d s).PortsSound :=
  .foldl (fun _ _ hx => listEnd_portsSound hx) (followPosition_portsSound (d := d) (cause := .stop) h).congr

theorem doorStartLost_portsSound (h : s.PortsSound) : (doorStartLost d s).PortsSound := by
  unfold doorStartLost
  split
  · exact changeDoor_portsSound h
  · exact changeDoor_portsSound h
  all_goals exact raiseDoor_portsSound h

theorem doorStart_portsSound (h : s.PortsSound) : (doorStart d s).PortsSound := by
  have h1 : (s.setDoor d { s.door d with timer := 0, pendingRelease := false, closeDeferred := false }).PortsSound := h.congr
  have h2 := State.PortsSound.ite (p := s.usable (.doorPosition d)) h1 (doorStartLost_portsSound (d := d) h1)
  exact .ite (changeDoor_portsSound h2) h2

theorem recheckObstruction_portsSound (h : s.PortsSound) : (recheckObstruction d s).PortsSound :=
  .ite (.ite (listFault_portsSound h) h) (listEnd_portsSound h)

theorem doorSwap_portsSound (h : s.PortsSound) : (doorSwap d s).PortsSound := by
  have h1 := gateTest_portsSound (d := d) (recheckObstruction_portsSound (d := d) h)
  exact .ite (moveDoor_portsSound h1) h1

theorem doorsSwap_portsSound (h : s.PortsSound) : (doorsSwap s).PortsSound :=
  .ite (.foldl (fun _ _ hx => doorSwap_portsSound hx) h.congr) h.congr
end

/-! ### The entry into CONFIG and the report of a CONFIRMED hold -/

theorem gearConfig_portsSound (h : s.PortsSound) : (gearConfig s).PortsSound :=
  jointConfig_portsSound (rearConfig_portsSound (endCause_portsSound h))

theorem heightConfig_portsSound (h : s.PortsSound) : (heightConfig s).PortsSound :=
  cornersConfig_portsSound (airConfig_portsSound (kneelConfig_portsSound h))

theorem signalsSwap_portsSound {before : State} (h : s.PortsSound) : (signalsSwap before s).PortsSound :=
  .foldl (fun _ _ hx => .ite (followPosition_portsSound hx) hx) h.congr

theorem swapsConfig_portsSound (h : s.PortsSound) : (swapsConfig s).PortsSound := by
  have h1 : (exchangeAll s).PortsSound := h.congr
  have h2 := State.PortsSound.ite (p := (s.tab 1).pendingSwap) (signalsSwap_portsSound (before := s) h1) h1
  exact .ite (sendNotice_portsSound (.ite h2.congr h2)) h

theorem configEntry_portsSound (h : s.PortsSound) : (configEntry s).PortsSound := by
  have h1 : (claimsConfig (s.setPart .config)).PortsSound := addClaim_portsSound (removeClaim_portsSound h.congr)
  have h2 := brakeConfig_portsSound (heightConfig_portsSound (gearConfig_portsSound h1))
  exact swapsConfig_portsSound (sendNotice_portsSound (.foldl (fun _ _ hx => doorConfig_portsSound hx) h2))

theorem reportConfirmed_portsSound (h : s.PortsSound) : (reportConfirmed s).PortsSound := by
  have h1 := gateTests_portsSound h
  have h2 := State.PortsSound.ite (p := (gateTests s).running) (kneelConfirmed_portsSound h1) h1
  exact .ite (configEntry_portsSound h2) h2

theorem deliver_portsSound {r : State × Bool} (h : r.1.PortsSound) : (deliver r).PortsSound :=
  .ite (reportConfirmed_portsSound h) h

end Sys2Proof.Machine
end

section
/-! PROOFS. The ports through swaps, reports, requests, resets and the link, and every step (R5, R15, R28). -/

namespace Sys2Proof.Machine

set_option Elab.async false

variable {s t : State}

/-! ### Swaps, the motion state, START and STOP -/

theorem swapsRun_portsSound (h : s.PortsSound) : (swapsRun s).PortsSound := by
  have steering : ∀ b, (swapSteering b (exchangeAll s)).PortsSound := fun b =>
    .ite ((h.congr (t := exchangeAll s)).of_changes (retarget_changes _)) h.congr
  have joint : ∀ b x, State.PortsSound x → (swapJoint b x).PortsSound := fun _ _ hx => .ite (jointEvent_portsSound hx) hx
  have height : ∀ b x, State.PortsSound x → (swapHeight b x).PortsSound := fun _ _ hx =>
    .ite (reportLoads_portsSound (kneelCompletion_portsSound (cornersSwap_portsSound (evalAir_portsSound hx)))) hx
  have brake : ∀ b x, State.PortsSound x → (swapBrake b x).PortsSound := fun _ _ hx =>
    .ite (deliver_portsSound (brakeSwap_portsSound hx)) hx
  have doors : ∀ b x, State.PortsSound x → (swapDoors b x).PortsSound := fun _ _ hx => .ite (doorsSwap_portsSound hx) hx
  exact .ite (sendNotice_portsSound (doors _ _ (brake _ _ (height _ _ (joint _ _ (steering _)))))) h

theorem speedFault_portsSound {old : SpeedStatus} (h : s.PortsSound) : (speedFault old s).PortsSound :=
  .ite h (.ite (raiseFault_portsSound h) (endCause_portsSound h))

theorem doorsMotion_portsSound {cleared set : Bool} (h : s.PortsSound) : (doorsMotion cleared set s).PortsSound :=
  .foldl (fun _ _ hx => .ite (deliver_portsSound (doorMotion_portsSound hx)) hx) h

theorem motionReport_portsSound {old : Motion} (h : s.PortsSound) : (motionReport old s).PortsSound := by
  unfold motionReport
  extract_lets cleared set s1 s2 s3 s4
  have h1 : s1.PortsSound :=
    (jointEvent_portsSound (h.of_changes (rearMotion_changes s))).of_changes (cornersMotion_changes cleared _)
  have h2 : s2.PortsSound := .ite (kneelMoving_portsSound h1) h1
  have h3 : s3.PortsSound := .ite (deliver_portsSound (holdOnStandstill_portsSound h2)) h2
  have h4 : s4.PortsSound := doorsMotion_portsSound h3
  exact .ite (speedFault_portsSound (.ite (swapsRun_portsSound h4) h4)) h

theorem recomputeSpeed_portsSound (h : s.PortsSound) : (recomputeSpeed s).PortsSound := motionReport_portsSound h.congr

theorem standstillCycle_portsSound (h : s.PortsSound) : (standstillCycle s).PortsSound :=
  .ite h (.ite (.ite (motionReport_portsSound h.congr) h.congr) h.congr)

theorem gearStart_portsSound (h : s.PortsSound) : (gearStart s).PortsSound := by
  have h1 := State.PortsSound.ite (p := s.motion.status = .lost) (raiseFault_portsSound (c := .speedLost) (n := 0) h) h
  exact raiseIfLost_portsSound (jointStart_portsSound
    (raiseIfLost_portsSound (raiseIfLost_portsSound (rearStart_portsSound h1))))

theorem kneelStart_portsSound (h : s.PortsSound) : (kneelStart s).PortsSound := h.congr

theorem heightStart_portsSound (h : s.PortsSound) : (heightStart s).PortsSound :=
  kneelStart_portsSound (cornersStart_portsSound (airStart_portsSound h))

theorem brakeStart_portsSound (h : s.PortsSound) : (brakeStart s).1.PortsSound := by
  have h1 := applyHold_portsSound (cause := .start) h
  have h2 := raiseIfLost_portsSound (r := .driverDecel) (c := .demandLost)
    (h1.congr (t := (applyHold .start s).1.setAxle
      { (applyHold .start s).1.axle with decel := driverDecel (applyHold .start s).1 }))
  exact resolveAxles_portsSound h2.congr

theorem partNotice_portsSound {old : PartState} {cause : PartCause} (h : s.PortsSound) :
    (partNotice old cause s).PortsSound := sendNotice_portsSound h

theorem startPart_portsSound (h : s.PortsSound) : (startPart s).PortsSound := by
  unfold startPart
  have h1 : (doorsStart (s.setPart .run)).PortsSound := .foldl (fun _ _ hx => doorStart_portsSound hx) h.congr
  exact partNotice_portsSound
    (deliver_portsSound (brakeStart_portsSound (heightStart_portsSound (gearStart_portsSound h1))))

theorem stopPart_portsSound (h : s.PortsSound) : (stopPart s).PortsSound := by
  have h1 : (partNotice s.part .stop ((addClaim .maint s).1.setPart .stopping)).PortsSound :=
    partNotice_portsSound (addClaim_portsSound (k := .maint) h).congr
  exact .ite (reportConfirmed_portsSound h1) (.ite (configEntry_portsSound h1) h1)

/-! ### The signal store -/

section
variable {l : List SigReport}

theorem rearReports_portsSound (h : s.PortsSound) : (rearReports l s).PortsSound := by
  have h1 := h.of_changes (retarget_changes s)
  exact .ite (h1.of_changes (resolveRear_changes _)) (.ite (h.of_changes (resolveRear_changes s)) h)

theorem jointReports_portsSound (h : s.PortsSound) : (jointReports l s).PortsSound := by
  unfold jointReports
  split
  · exact jointReport_portsSound h
  · exact h

theorem roleFault_portsSound {r : Role} {c : FaultCode} (h : s.PortsSound) : (roleFault r c l s).PortsSound := by
  unfold roleFault
  split
  · exact .ite h (.ite (endCause_portsSound h) (.ite (raiseFault_portsSound h) h))
  · exact h

theorem gearFaults_portsSound (h : s.PortsSound) : (gearFaults l s).PortsSound :=
  roleFault_portsSound (roleFault_portsSound (roleFault_portsSound h))

theorem heightReportIn_portsSound {c : Fin 6} (h : s.PortsSound) : (heightReportIn l c s).PortsSound := by
  unfold heightReportIn
  split
  · exact heightReport_portsSound h
  · exact h

theorem bellowsReportIn_portsSound {c : Fin 6} (h : s.PortsSound) : (bellowsReportIn l c s).PortsSound := by
  unfold bellowsReportIn
  split
  · exact bellowsReport_portsSound h
  · exact h

theorem heightReports_portsSound (h : s.PortsSound) : (heightReports l s).PortsSound := by
  unfold heightReports
  extract_lets s1 s2 s3 s4 s5
  have h1 : s1.PortsSound := .ite (airReport_portsSound h) h
  have h2 : s2.PortsSound :=
    .foldl (fun _ _ hx => bellowsReportIn_portsSound hx) (.foldl (fun _ _ hx => heightReportIn_portsSound hx) h1)
  have h3 : s3.PortsSound := .ite ((State.PortsSound.ite h2.congr h2).of_changes (arbitrate_changes _)) h2
  have h4 : s4.PortsSound := .ite (kneelCompletion_portsSound h3) h3
  have h5 : s5.PortsSound := reportLoads_portsSound h4
  exact .ite (.ite (kneelDrive_portsSound h5) h5) h

theorem decelReport_portsSound {was : Bool} (h : s.PortsSound) : (decelReport was s).PortsSound := by
  have h1 : (resolveAxles (evalBackup (s.setAxle { s.axle with decel := driverDecel s }))).PortsSound :=
    resolveAxles_portsSound h.congr
  exact .ite (.ite (endCause_portsSound h1) (.ite (raiseFault_portsSound h1) h1)) h

theorem brakeReports_portsSound (h : s.PortsSound) : (brakeReports l s).PortsSound := by
  unfold brakeReports
  extract_lets s1 s2
  have h1 : s1.PortsSound := .ite (deliver_portsSound (holdOnActual_portsSound h)) h
  have h2 : s2.PortsSound := by
    unfold s2
    split
    · exact decelReport_portsSound h1
    · exact h1
  exact .ite (deliver_portsSound (holdOnDrive_portsSound h2)) h2

theorem doorReports_portsSound {d : Fin 4} (h : s.PortsSound) : (doorReports l d s).PortsSound := by
  unfold doorReports
  extract_lets s1 s2
  have h1 : s1.PortsSound := by
    unfold s1
    split
    · exact deliver_portsSound (positionReport_portsSound h)
    · exact h
  have h2 : s2.PortsSound := .ite (buttonReport_portsSound h1) h1
  exact .ite (deliver_portsSound (handleReport_portsSound h2)) h2

theorem deliverReports_portsSound (h : s.PortsSound) : (deliverReports l s).PortsSound := by
  have speed : (speedReports l s).PortsSound := .ite (recomputeSpeed_portsSound h) h
  have gear := gearFaults_portsSound (l := l) (jointReports_portsSound (l := l) (rearReports_portsSound (l := l) speed))
  exact .foldl (fun _ _ hx => doorReports_portsSound hx) (brakeReports_portsSound (heightReports_portsSound gear))
end

theorem applyChanges_portsSound {l : List SigChange} (h : s.PortsSound) : (applyChanges l s).PortsSound :=
  deliverReports_portsSound (.foldl
    (fun _ _ hx => .ite hx (.ite (sendNotice_portsSound hx) (.ite (sendNotice_portsSound hx) hx))) h.congr)

theorem ageOne_portsSound {i : Nat} {test : SigChange → Bool} (h : s.PortsSound) : (ageOne i test s).PortsSound := by
  unfold ageOne
  split
  · exact .ite (applyChanges_portsSound h) h
  · exact h

/-! ### Resets (R8, R17) -/

theorem PortState.reset_sound : PortState.reset.Bounded ∧ PortState.reset.Conserved := by decide

theorem resetRecords_portsSound {station : BitVec 6} {tables : Vector Table 9} : (resetRecords station tables s).PortsSound := by
  intro p
  cases p
  · exact PortState.reset_sound
  · exact PortState.reset_sound

theorem strapAndPart_portsSound {cause : PartCause} (h : s.PortsSound) : (strapAndPart cause s).PortsSound :=
  .ite (sendNotice_portsSound (raiseFault_portsSound h.congr)) (raiseFault_portsSound (sendNotice_portsSound h.congr))

theorem coldReset_portsSound {cause : PartCause} : (coldReset cause s).PortsSound :=
  .ite (strapAndPart_portsSound resetRecords_portsSound) (sendNotice_portsSound resetRecords_portsSound)

theorem takeReset_portsSound (h : s.PortsSound) : (takeReset s).PortsSound := by
  unfold takeReset
  split
  · rename_i k _
    cases k with
    | soft => exact sendNotice_portsSound resetRecords_portsSound
    | hard => exact coldReset_portsSound
  · exact h

/-! ### Management requests -/

section
variable {src : BitVec 6} {args : List Val}

theorem judged_portsSound {α : Type} {tag : Fin 14} {a : Option α} {run : α → State} (h : s.PortsSound)
    (hr : ∀ x, (run x).PortsSound) : (judged src tag a run s).PortsSound := by
  refine .ite (sendReply_portsSound h) ?_
  cases a with
  | none => exact sendReply_portsSound h
  | some x => exact hr x

theorem loadBegin_portsSound (h : s.PortsSound) : (loadBegin src args s).PortsSound :=
  judged_portsSound h fun _ => .ite (sendReply_portsSound h) (sendReply_portsSound h.congr)

theorem loadData_portsSound (h : s.PortsSound) : (loadData src args s).PortsSound := by
  refine judged_portsSound h fun _ => ?_
  unfold loadDataRun
  split
  · exact sendReply_portsSound h
  · exact sendReply_portsSound h.congr

theorem loadEnd_portsSound (h : s.PortsSound) : (loadEnd src args s).PortsSound := by
  refine judged_portsSound h fun _ => ?_
  unfold loadEndRun
  split
  · exact sendReply_portsSound h
  · exact sendReply_portsSound (sendNotice_portsSound h.congr)

theorem loadCycle_portsSound (h : s.PortsSound) : (loadCycle s).PortsSound := by
  unfold loadCycle
  split
  · exact h
  · exact .ite (sendNotice_portsSound h.congr) h.congr

theorem swap_portsSound (h : s.PortsSound) : (swap src args s).PortsSound := by
  refine judged_portsSound h fun m => ?_
  have h1 : (setPendingSwaps m s).PortsSound := h.congr
  exact .ite (sendReply_portsSound h) (.ite (sendReply_portsSound h) (sendReply_portsSound
    (.ite (swapsConfig_portsSound h1) (.ite (swapsRun_portsSound h1) h1))))

theorem select_portsSound (h : s.PortsSound) : (select src args s).PortsSound :=
  judged_portsSound h fun _ => sendReply_portsSound h.congr

theorem read_portsSound (h : s.PortsSound) : (read src args s).PortsSound := by
  refine judged_portsSound h fun _ => ?_
  unfold readRun
  split
  · exact sendReply_portsSound h
  · exact .ite (sendReply_portsSound h) (sendReply_portsSound h)

theorem query_portsSound (h : s.PortsSound) : (query src args s).PortsSound := by
  refine judged_portsSound h fun _ => ?_
  unfold queryRun
  split
  · exact sendReply_portsSound h
  · exact sendReply_portsSound h

theorem start_portsSound (h : s.PortsSound) : (start src args s).PortsSound :=
  judged_portsSound h fun _ => .ite (sendReply_portsSound h) (.ite (sendReply_portsSound h)
    (.ite (sendReply_portsSound h) (sendReply_portsSound (startPart_portsSound h))))

theorem stop_portsSound (h : s.PortsSound) : (stop src args s).PortsSound :=
  judged_portsSound h fun _ => .ite (sendReply_portsSound h) (.ite (sendReply_portsSound h)
    (sendReply_portsSound (stopPart_portsSound h)))

theorem holdAdd_portsSound (h : s.PortsSound) : (holdAdd src args s).PortsSound :=
  judged_portsSound h fun _ => sendReply_portsSound (deliver_portsSound (addClaim_portsSound h))

theorem holdRemove_portsSound (h : s.PortsSound) : (holdRemove src args s).PortsSound :=
  judged_portsSound h fun _ => sendReply_portsSound (removeClaim_portsSound h)

theorem clearFaultsRequest_portsSound (h : s.PortsSound) : (clearFaultsRequest src args s).PortsSound :=
  judged_portsSound h fun _ => sendReply_portsSound (clearFaults_portsSound h)

/-- A queue whose frames are all marked counts for nothing (R27). -/
theorem unmarked_marked (q : List RxEntry) : unmarked (q.map fun e => { e with marked := true }) = 0 := by
  simp [unmarked, List.filter_map, Function.comp_def]

theorem PortState.clear_sound {x : PortState} (h : x.Bounded) : x.clear.Bounded ∧ x.clear.Conserved := by
  refine ⟨⟨?_, h.2⟩, ?_⟩
  · simpa [PortState.clear] using h.1
  · have none_left : unmarked x.clear.rx = 0 := unmarked_marked x.rx
    unfold PortState.Conserved
    rw [none_left]
    rfl

theorem clearAllCounters_portsSound (h : s.PortsSound) : (clearAllCounters s).PortsSound := by
  intro p
  cases p
  · exact PortState.clear_sound (h .vehicle).1
  · exact PortState.clear_sound (h .chassis).1

theorem clearCounters_portsSound (h : s.PortsSound) : (clearCounters src args s).PortsSound :=
  judged_portsSound h fun _ => sendReply_portsSound (clearAllCounters_portsSound h)

theorem resetRequest_portsSound (h : s.PortsSound) : (resetRequest src args s).PortsSound := by
  refine judged_portsSound h fun k => .ite (sendReply_portsSound h) ?_
  have h1 : (sendReply src (doneIx 13) [toVal k.code] true (s.setResetPending (some k))).PortsSound :=
    sendReply_portsSound h.congr
  exact .ite h1 (takeReset_portsSound h1)

theorem manage_portsSound {tag : Nat} (h : s.PortsSound) : (manage src tag args s).PortsSound := by
  unfold manage
  split
  · exact loadBegin_portsSound h
  · exact loadData_portsSound h
  · exact loadEnd_portsSound h
  · exact swap_portsSound h
  · exact select_portsSound h
  · exact read_portsSound h
  · exact query_portsSound h
  · exact start_portsSound h
  · exact stop_portsSound h
  · exact holdAdd_portsSound h
  · exact holdRemove_portsSound h
  · exact clearFaultsRequest_portsSound h
  · exact clearCounters_portsSound h
  · exact resetRequest_portsSound h
  · exact .ite (sendReply_portsSound h) (sendReply_portsSound h)
end

/-! ### Cab requests -/

theorem doorRelease_portsSound {mask : Val} (h : s.PortsSound) : (doorRelease mask s).PortsSound :=
  .ite (.foldl (fun _ _ hx => .ite (deliver_portsSound (releaseDoor_portsSound hx)) hx) h) (releaseRefused_portsSound h)

theorem doorClose_portsSound {mask : Val} (h : s.PortsSound) : (doorClose mask s).PortsSound :=
  .ite (.ite (.foldl (fun _ _ hx => .ite (closeDoor_portsSound hx) hx) h) h) (releaseRefused_portsSound h)

theorem kneelLowerRequest_portsSound (h : s.PortsSound) : (kneelLowerRequest s).PortsSound :=
  deliver_portsSound (kneelLower_portsSound h)

theorem driverHoldOn_portsSound (h : s.PortsSound) : (driverHoldOn s).PortsSound := deliver_portsSound (addClaim_portsSound h)

theorem driverHoldOff_portsSound (h : s.PortsSound) : (driverHoldOff s).PortsSound := removeClaim_portsSound h

theorem cabRequest_portsSound {f : Frame} (h : s.PortsSound) : (cabRequest f s).PortsSound := by
  unfold cabRequest
  split
  · exact doorRelease_portsSound h
  · exact doorClose_portsSound h
  · exact kneelLowerRequest_portsSound h
  · exact kneelRaise_portsSound h
  · exact driverHoldOn_portsSound h
  · exact driverHoldOff_portsSound h
  · exact h

end Sys2Proof.Machine
end

section
/-! PROOFS. The link: frames that arrive, are handed on and are sent, and the ports through every step (R3 to R7, R16, R20 to
R28). -/

namespace Sys2Proof.Machine

set_option Elab.async false

variable {s t : State} {p : Port}

/-! ### Arrival -/

/-- A change of a port record outside its queues, its accepted counter and its classifier counters. -/
theorem State.PortsSound.modPort {g : PortState → PortState} (h : s.PortsSound)
    (hrx : (g (s.port p)).rx = (s.port p).rx := by rfl) (htx : (g (s.port p)).tx = (s.port p).tx := by rfl)
    (hacc : (g (s.port p)).ctr.accepted = (s.port p).ctr.accepted := by rfl)
    (hcls : (g (s.port p)).cls = (s.port p).cls := by rfl) : (s.modPort p g).PortsSound := by
  obtain ⟨hb, hc⟩ := h p
  refine h.setPort ?_ ?_
  · simpa only [PortState.Bounded, hrx, htx] using hb
  · simpa only [PortState.Conserved, hrx, hacc, hcls] using hc

theorem scoreCycle_portsSound (h : s.PortsSound) : (scoreCycle p s).PortsSound := by
  have h1 : (s.modPort p (fun x => { x with score := x.score - 1 })).PortsSound := h.modPort
  exact .ite (endCause_portsSound h1.modPort) h1

theorem linkError_portsSound (h : s.PortsSound) : (linkError p s).PortsSound := by
  have h1 : (s.modPort p (fun x => { x with score := scoreUp x.score })).PortsSound := h.modPort
  exact .ite (raiseFault_portsSound h1.modPort) h1

/-- An accepted frame raises both sides of the conservation law. -/
theorem acceptFrame_conserved {f : Frame} {x : PortState} (h : x.Conserved) : (acceptFrame f x).Conserved := by
  have one_more : unmarked (x.rx ++ [{ frame := f, marked := false }]) = unmarked x.rx + 1 := by simp [unmarked]
  change x.ctr.accepted + 1 = x.cls.total + BitVec.ofNat 32 (unmarked (x.rx ++ [{ frame := f, marked := false }]))
  rw [one_more, BitVec.ofNat_add, h, BitVec.add_assoc]
  rfl

theorem acceptFrame_bounded {f : Frame} {x : PortState} (h : x.Bounded) (hx : rxFull x = false) : (acceptFrame f x).Bounded := by
  have room : x.rx.length < 16 := by simpa [rxFull] using hx
  refine ⟨?_, h.2⟩
  simp only [acceptFrame, List.length_append, List.length_singleton]
  omega

theorem queueFrame_portsSound {f : Frame} (h : s.PortsSound) : (queueFrame p f s).PortsSound := by
  unfold queueFrame
  split
  · exact h.modPort
  · rename_i not_full
    exact h.setPort (acceptFrame_bounded (h p).1 (Bool.not_eq_true _ ▸ not_full)) (acceptFrame_conserved (h p).2)

theorem arrive_portsSound {octets : List Byte} (h : s.PortsSound) : (arrive p octets s).PortsSound := by
  unfold arrive
  split
  · split
    · exact queueFrame_portsSound h
    · exact linkError_portsSound h.modPort
  · exact linkError_portsSound h.modPort

/-! ### Hand-on -/

section
variable (c : ClassCounters)

theorem ClassCounters.total_consumed : ({ c with consumed := c.consumed + 1 } : ClassCounters).total = c.total + 1 := by
  simp only [total]; ring

theorem ClassCounters.total_requested : ({ c with requested := c.requested + 1 } : ClassCounters).total = c.total + 1 := by
  simp only [total]; ring

theorem ClassCounters.total_forwarded : ({ c with forwarded := c.forwarded + 1 } : ClassCounters).total = c.total + 1 := by
  simp only [total]; ring

theorem ClassCounters.total_management : ({ c with management := c.management + 1 } : ClassCounters).total = c.total + 1 := by
  simp only [total]; ring

theorem ClassCounters.total_unrouted : ({ c with unrouted := c.unrouted + 1 } : ClassCounters).total = c.total + 1 := by
  simp only [total]; ring

theorem ClassCounters.total_gated : ({ c with gated := c.gated + 1 } : ClassCounters).total = c.total + 1 := by
  simp only [total]; ring

theorem ClassCounters.total_misdirected : ({ c with misdirected := c.misdirected + 1 } : ClassCounters).total = c.total + 1 := by
  simp only [total]; ring

theorem ClassCounters.total_dropped : ({ c with dropped := c.dropped + 1 } : ClassCounters).total = c.total + 1 := by
  simp only [total]; ring
end

theorem State.setPort_setPort (x y : PortState) : (s.setPort p x).setPort p y = s.setPort p y := by cases p <;> rfl

/-- What counting a frame makes of its port's record. -/
theorem countClass_setPort (m : Bool) (g : ClassCounters → ClassCounters) (x : PortState) :
    countClass p m g (s.setPort p x) = s.setPort p (if m then x else { x with cls := g x.cls }) := by
  unfold countClass State.modPort
  cases m
  · simp [State.setPort_port, State.setPort_setPort]
  · rfl

/-- A frame has left the receive queue of a port and is still to be counted, unless it is marked (R27, R28): the ports are sound
once any one of the eight classifier counters has been raised for it. -/
def State.AwaitsCount (p : Port) (m : Bool) (s : State) : Prop :=
  ∀ g : ClassCounters → ClassCounters, (∀ c, (g c).total = c.total + 1) → (countClass p m g s).PortsSound

theorem unmarked_cons (e : RxEntry) (q : List RxEntry) : unmarked (e :: q) = unmarked q + if e.marked then 0 else 1 := by
  cases h : e.marked <;> simp [unmarked, h]

/-- Taking the head frame off a receive queue leaves it to be counted. -/
theorem awaitsCount_of_head {e : RxEntry} {rest : List RxEntry} (h : s.PortsSound) (hq : (s.port p).rx = e :: rest) :
    (s.modPort p (fun x => { x with rx := rest })).AwaitsCount p e.marked := by
  intro g hg
  obtain ⟨⟨hrx, htx⟩, hc⟩ := h p
  have shorter : rest.length ≤ 16 := by
    rw [hq, List.length_cons] at hrx
    omega
  rw [PortState.Conserved, hq, unmarked_cons] at hc
  rw [State.modPort, countClass_setPort]
  split
  · rename_i marked
    refine h.setPort ⟨shorter, htx⟩ ?_
    simpa [PortState.Conserved, marked] using hc
  · rename_i not_marked
    refine h.setPort ⟨shorter, htx⟩ ?_
    change (s.port p).ctr.accepted = (g (s.port p).cls).total + BitVec.ofNat 32 (unmarked rest)
    rw [hc, hg, if_neg not_marked, BitVec.ofNat_add, BitVec.add_assoc, BitVec.add_comm (BitVec.ofNat 32 (unmarked rest))]
    rfl

section
variable {m : Bool} {f : Frame}

theorem misdirect_portsSound (h : s.AwaitsCount p m) : (misdirect p m s).PortsSound := h _ ClassCounters.total_misdirected

theorem consume_portsSound (h : s.AwaitsCount p m) : (consume p m f s).PortsSound :=
  .ite (applyChanges_portsSound (h _ ClassCounters.total_consumed)) (misdirect_portsSound h)

theorem routeRequest_portsSound (h : s.AwaitsCount p m) : (routeRequest p m f s).PortsSound :=
  .ite (cabRequest_portsSound (h _ ClassCounters.total_requested)) (misdirect_portsSound h)

theorem routeForward_portsSound (h : s.AwaitsCount p m) : (routeForward p m f s).PortsSound :=
  offerFrame_portsSound (h _ ClassCounters.total_forwarded)

theorem routeBy_portsSound {e : RouteEntry} (h : s.AwaitsCount p m) : (routeBy e p m f s).PortsSound := by
  unfold routeBy
  split
  · exact consume_portsSound h
  · exact routeRequest_portsSound h
  · exact routeForward_portsSound h
  · exact .ite (routeForward_portsSound h) (h _ ClassCounters.total_gated)
  · exact h _ ClassCounters.total_dropped
  · exact h _ ClassCounters.total_dropped

theorem classify_portsSound (h : s.AwaitsCount p m) : (classify p m f s).PortsSound := by
  unfold classify
  split
  · exact routeBy_portsSound h
  · exact h _ ClassCounters.total_unrouted
end

theorem handOn_portsSound {e : RxEntry} (h : s.AwaitsCount p e.marked) : (handOn p e s).PortsSound := by
  unfold handOn
  split
  · cases p with
    | vehicle => exact manage_portsSound (h _ ClassCounters.total_management)
    | chassis => exact misdirect_portsSound h
  · exact classify_portsSound h

theorem handOnHead_portsSound (h : s.PortsSound) : (handOnHead p s).PortsSound := by
  unfold handOnHead
  split
  · exact h
  · rename_i e rest hq
    exact handOn_portsSound (awaitsCount_of_head h hq)

/-! ### Sending -/

/-- A transmit queue without its head is within its places. -/
theorem bounded_of_sent {x : PortState} {e : TxEntry} {rest : List TxEntry} {ctr : PortCounters} (h : x.Bounded)
    (hq : x.tx = e :: rest) : ({ x with tx := rest, ctr := ctr } : PortState).Bounded := by
  obtain ⟨hrx, htx, hlim⟩ := h
  rw [hq] at htx hlim
  refine ⟨hrx, (Nat.le_succ _).trans htx, le_trans ?_ hlim⟩
  exact ((List.sublist_cons_self e rest).filter _).length_le

theorem sent_portsSound (h : s.PortsSound) : (sent p s).PortsSound := by
  unfold sent
  split
  · exact h
  · rename_i e rest hq
    have h1 : (s.modPort p (fun x =>
        { x with tx := rest, ctr := { x.ctr with transmitted := x.ctr.transmitted + 1 } })).PortsSound :=
      h.setPort (bounded_of_sent (h p).1 hq) (h p).2
    exact .ite (takeReset_portsSound h1) h1

/-! ### Cycle start and the internal events -/

theorem runJob_portsSound {j : Job} (h : s.PortsSound) : (runJob j s).PortsSound := by
  cases j with
  | scoreVehicle => exact scoreCycle_portsSound h
  | scoreChassis => exact scoreCycle_portsSound h
  | signals => exact applyChanges_portsSound h
  | motion => exact standstillCycle_portsSound h
  | rear => exact rearCycle_portsSound h
  | joint => exact jointCycle_portsSound h
  | corners => exact cornersCycle_portsSound h
  | kneel => exact kneelCycle_portsSound h
  | hold => exact holdCycle_portsSound h
  | saturation => exact saturationCycle_portsSound h
  | doors => exact doorsCycle_portsSound h
  | load => exact loadCycle_portsSound h
  | schedule => exact scheduleCycle_portsSound h

theorem cycleStart_portsSound (h : s.PortsSound) : (cycleStart s).PortsSound :=
  .foldl (fun _ _ hx => runJob_portsSound hx) h.congr

theorem whenDue_portsSound {due : Bool} {f : State → State} (h : s.PortsSound) (hf : (f s).PortsSound) :
    (whenDue due f s).PortsSound := .ite hf h

/-! ### Every command and every step -/

/-- Where a command answers with a next state, its ports are sound. -/
def NextPortsSound (o : Host.Outcome State Fault Refusal) : Prop := ∀ t, o = .next t → t.PortsSound

theorem nextPortsSound_next (h : s.PortsSound) : NextPortsSound (.next s) := by
  rintro t ⟨⟩
  exact h

theorem nextPortsSound_asRequest {src : BitVec 6} {args : List Val} {run : State → State} (h : (run s).PortsSound) :
    NextPortsSound (asRequest src args run s) := by
  unfold asRequest
  split
  · exact nextPortsSound_next h
  · rintro t ⟨⟩

theorem exec_portsSound (i : Instr) (h : s.PortsSound) : NextPortsSound (exec i s) := by
  cases i with
  | frameArrival => exact nextPortsSound_next (arrive_portsSound h)
  | frameHandOn => exact nextPortsSound_next (handOnHead_portsSound h)
  | frameSent => exact nextPortsSound_next (sent_portsSound h)
  | cycleStart => exact nextPortsSound_next (cycleStart_portsSound h)
  | linkFaultHeal => exact nextPortsSound_next (whenDue_portsSound h (scoreCycle_portsSound h))
  | signalStale => exact nextPortsSound_next (ageOne_portsSound h)
  | signalHoldExpiry => exact nextPortsSound_next (ageOne_portsSound h)
  | standstillSet => exact nextPortsSound_next (whenDue_portsSound h (standstillCycle_portsSound h))
  | rearTracking => exact nextPortsSound_next (whenDue_portsSound h (trackWork_portsSound h))
  | guardFall => exact nextPortsSound_next (whenDue_portsSound h (jointCycle_portsSound h))
  | persistenceElapsed =>
    exact nextPortsSound_next (whenDue_portsSound h ((h.congr (t := s.setCorner _ _)).of_changes (arbitrate_changes _)))
  | minimumPulse =>
    exact nextPortsSound_next (whenDue_portsSound h ((h.congr (t := s.setCorner _ _)).of_changes (arbitrate_changes _)))
  | runTimeout =>
    exact nextPortsSound_next (whenDue_portsSound h ((timeoutTest_portsSound h.congr).of_changes (arbitrate_changes _)))
  | loweringTimeout => exact nextPortsSound_next (whenDue_portsSound h (kneelCycle_portsSound h))
  | raisingTimeout => exact nextPortsSound_next (whenDue_portsSound h (kneelCycle_portsSound h))
  | confirmTimeout => exact nextPortsSound_next (whenDue_portsSound h (holdCycle_portsSound h))
  | rampEnd => exact nextPortsSound_next (whenDue_portsSound h (holdCycle_portsSound h))
  | brakeSaturated => exact nextPortsSound_next (whenDue_portsSound h (satCycle_portsSound h))
  | openingTimeout => exact nextPortsSound_next (whenDue_portsSound h (openingCycle_portsSound h))
  | closingTimeout => exact nextPortsSound_next (whenDue_portsSound h (closingCycle_portsSound h))
  | warningEnd => exact nextPortsSound_next (whenDue_portsSound h (warningCycle_portsSound h))
  | dwellEnd => exact nextPortsSound_next (whenDue_portsSound h (openCycle_portsSound h))
  | loadAbandon => exact nextPortsSound_next (whenDue_portsSound h (loadCycle_portsSound h))
  | edgeLineChange => exact nextPortsSound_next h.congr
  | edgeFilterExpiry => exact nextPortsSound_next (filterExpiry_portsSound h)
  | powerOnReset => exact nextPortsSound_next coldReset_portsSound
  | loadBegin => exact nextPortsSound_asRequest (loadBegin_portsSound h)
  | loadData => exact nextPortsSound_asRequest (loadData_portsSound h)
  | loadEnd => exact nextPortsSound_asRequest (loadEnd_portsSound h)
  | swap => exact nextPortsSound_asRequest (swap_portsSound h)
  | select => exact nextPortsSound_asRequest (select_portsSound h)
  | read => exact nextPortsSound_asRequest (read_portsSound h)
  | query => exact nextPortsSound_asRequest (query_portsSound h)
  | start => exact nextPortsSound_asRequest (start_portsSound h)
  | stop => exact nextPortsSound_asRequest (stop_portsSound h)
  | holdAdd => exact nextPortsSound_asRequest (holdAdd_portsSound h)
  | holdRemove => exact nextPortsSound_asRequest (holdRemove_portsSound h)
  | clearFaults => exact nextPortsSound_asRequest (clearFaultsRequest_portsSound h)
  | clearCounters => exact nextPortsSound_asRequest (clearCounters_portsSound h)
  | reset => exact nextPortsSound_asRequest (resetRequest_portsSound h)
  | doorRelease => exact nextPortsSound_next (doorRelease_portsSound h)
  | doorClose => exact nextPortsSound_next (doorClose_portsSound h)
  | kneelLower => exact nextPortsSound_next (kneelLowerRequest_portsSound h)
  | kneelRaise => exact nextPortsSound_next (kneelRaise_portsSound h)
  | driverHoldOn => exact nextPortsSound_next (driverHoldOn_portsSound h)
  | driverHoldOff => exact nextPortsSound_next (driverHoldOff_portsSound h)

theorem step_portsSound (h : s.PortsSound) : NextPortsSound (step s) := by
  unfold step
  split
  · exact exec_portsSound _ h.congr
  · exact nextPortsSound_next (filterTicks_portsSound h)

end Sys2Proof.Machine

open Sys2Proof Sys2Proof.Machine

/-- Settles O55: every operation keeps the ports sound, an offer by the test of its place and the hand-on of a frame by the one
classifier counter it raises. -/
theorem stepKeepsFrames : Obligations.StepKeepsFrames := by
  intro s t bounded conserved hstep
  have sound : s.PortsSound := s.portsSound_iff.mpr ⟨bounded, conserved⟩
  exact t.portsSound_iff.mp (step_portsSound sound t hstep)
end

section
/-! PROOFS. A frame routed by the first entry it matches (R21, R24 to R26), and a frame judged at a signal record (R35 to R38). -/

namespace Sys2Proof.Machine

set_option Elab.async false

variable {s : State} {p : Port}

/-! ### Routing -/

/-- The routes and the gates read no port record. -/
theorem routes_setPort (x : PortState) : (s.setPort p x).routes = s.routes := by cases p <;> rfl

theorem bypasses_setPort (f : Frame) (x : PortState) : bypasses f (s.setPort p x) = bypasses f s := by cases p <;> rfl

theorem gateSatisfied_setPort (a b : Val) (x : PortState) : gateSatisfied a b (s.setPort p x) = gateSatisfied a b s := by
  cases p <;> rfl

/-- A gate by its sixteen predicates (R30). -/
theorem gateSatisfied_iff (a b : Val) (s : State) : gateSatisfied a b s = true ↔
    ∀ k : Fin 16, (a.getLsbD k.val = true → predicate s k.val = true)
      ∧ (b.getLsbD k.val = true → predicate s k.val = false) := by
  have numbers : predicateIx = List.range 16 := rfl
  simp only [gateSatisfied, numbers, List.all_eq_true, List.mem_range, Fin.forall_iff]
  refine forall₂_congr fun k _ => ?_
  cases a.getLsbD k <;> cases b.getLsbD k <;> simp

/-- The head frame outside the management bypass, with T0 in use, is routed by the first entry that it matches (R20, R21). -/
theorem handOnHead_routed {e : RxEntry} {rest : List RxEntry} {r : RouteEntry} (hq : (s.port p).rx = e :: rest)
    (hb : e.frame.kind ≠ .mgmtReq ∨ e.frame.dst ≠ s.station) (hv : s.tableValid 0 = true)
    (hr : (routeEntries (s.tab 0).active).find? (fun a => a.matchesFrame p e.frame) = some r) :
    handOnHead p s = routeBy r p e.marked e.frame (s.setPort p { s.port p with rx := rest }) := by
  have outside : bypasses e.frame s = false := by
    rcases hb with h | h <;> simp [bypasses, h]
  have routes : s.routes = routeEntries (s.tab 0).active := if_pos hv
  unfold handOnHead
  rw [hq]
  simp only [State.modPort, handOn, bypasses_setPort, outside, classify, routes_setPort, routes, hr, Bool.false_eq_true, if_false]

/-- The head frame counted on a counter that `g` raises by a number: by 0 where the frame is marked, else by 1 (R27). -/
theorem countClass_head (m : Bool) (rest : List RxEntry) (g : Counter → ClassCounters → ClassCounters)
    (zero : g 0 (s.port p).cls = (s.port p).cls) :
    countClass p m (g 1) (s.setPort p { s.port p with rx := rest })
      = s.setPort p { s.port p with rx := rest, cls := g (if m = true then 0 else 1) (s.port p).cls } := by
  rw [countClass_setPort]
  cases m
  · rfl
  · exact congrArg (fun c => s.setPort p { s.port p with rx := rest, cls := c }) zero.symm

section
variable {r : RouteEntry} {m : Bool} {f : Frame}

theorem routeBy_forward (h : r.action = 2) : routeBy r p m f s = routeForward p m f s := by
  unfold routeBy
  rw [h]
  rfl

theorem routeBy_forwardIf (h : r.action = 3) : routeBy r p m f s =
    if gateSatisfied r.requireTrue r.requireFalse s then routeForward p m f s
    else countClass p m (fun c => { c with gated := c.gated + 1 }) s := by
  unfold routeBy
  rw [h]
  rfl

theorem routeBy_drop (h : r.action = 4) :
    routeBy r p m f s = countClass p m (fun c => { c with dropped := c.dropped + 1 }) s := by
  unfold routeBy
  rw [h]
  rfl
end

theorem hasPlace_limited_iff (q : List TxEntry) : hasPlace q .limited = true ↔ q.length < 32 ∧ limitedHeld q < 24 := by
  simp [hasPlace]

/-- A frame offered to the other port by what that port's record holds (R15, R24). -/
theorem forward_setPort (f : Frame) (x : PortState) :
    forward p f (s.setPort p x) = (s.setPort p x).setPort (otherPort p)
      (if (s.port (otherPort p)).tx.length < 32
          ∧ ((s.port (otherPort p)).tx.filter (fun a => a.cls == .limited)).length < 24 then
        { s.port (otherPort p) with
          tx := (s.port (otherPort p)).tx ++ [{ frame := f, cls := .limited, resetReply := false }] }
      else
        { s.port (otherPort p) with
          ctr := { (s.port (otherPort p)).ctr with forwardDrops := (s.port (otherPort p)).ctr.forwardDrops + 1 } }) := by
  have untouched : (s.setPort p x).port (otherPort p) = s.port (otherPort p) := by cases p <;> rfl
  unfold forward offerFrame State.modPort
  rw [untouched]
  exact congrArg ((s.setPort p x).setPort (otherPort p)) (if_congr (hasPlace_limited_iff _) rfl rfl)

/-! ### A sample judged -/

theorem toInt_eq_iff_notAvailable (v : Val) : v.toInt = -32768 ↔ v = notAvailable :=
  ⟨fun h => BitVec.eq_of_toInt_eq h, fun h => h ▸ rfl⟩

/-- A definition that names a frame's source and tag matches it (2.6). -/
theorem SigDef.matchesFrame_of_eq {d : SigDef} {f : Frame} (hs : d.source = f.src.toNat) (ht : d.tag = f.tag.toNat) :
    d.matchesFrame f = true := by simp [matchesFrame, hs, ht]

section
variable {d : SigDef} {f : Frame} {r : SigRec}

theorem sampleOutcome_short (hm : d.matchesFrame f = true) (hv : f.values[d.position.toNat]? = none) :
    sampleOutcome d f r = .counted { r with shorts := satSucc 65535 r.shorts } := by
  unfold sampleOutcome
  rw [if_pos hm, hv]

/-- A frame with a value at the definition's position is a duplicate, or reaches the tests of R37 and R38. -/
theorem sampleOutcome_value {v : Val} (hm : d.matchesFrame f = true) (hv : f.values[d.position.toNat]? = some v) :
    sampleOutcome d f r =
      if r.status ≠ .never ∧ f.seq = r.lastSeq then .counted { r with duplicates := satSucc 65535 r.duplicates }
      else (r.countSkip f.seq).takeRaw d f.seq v := by
  unfold sampleOutcome
  rw [if_pos hm, hv]

/-- The skip count touches nothing else (R36). -/
theorem SigRec.countSkip_eq (seq : BitVec 4) (r : SigRec) : r.countSkip seq =
    { r with skips := if r.status = .never ∨ seq = r.lastSeq + 1 then r.skips else satSucc 65535 r.skips } := by
  unfold countSkip
  split <;> rfl

theorem SigRec.takeRaw_absent {seq : BitVec 4} {v : Val} (hv : v = notAvailable) :
    r.takeRaw d seq v = .counted { r with lastSeq := seq, notAvail := satSucc 65535 r.notAvail } := if_pos hv

theorem SigRec.takeRaw_present {seq : BitVec 4} {v : Val} (hv : v ≠ notAvailable) :
    r.takeRaw d seq v = .accepted (({ r with lastSeq := seq } : SigRec).accept d v.toInt) := if_neg hv
end

end Sys2Proof.Machine

open Sys2Proof Sys2Proof.Machine

/-- Settles O10, by the action of the entry. -/
theorem handOnForwardedOrDropped : Obligations.HandOnForwardedOrDropped := by
  rintro p q e rest r s rfl hq hb hv hr x y n open?
  have gate : gateSatisfied r.requireTrue r.requireFalse (s.setPort p { x with rx := rest }) = true ↔ open? := by
    rw [gateSatisfied_setPort]
    exact gateSatisfied_iff r.requireTrue r.requireFalse s
  have routed : exec (.frameHandOn p) s = .next (routeBy r p e.marked e.frame (s.setPort p { x with rx := rest })) :=
    congrArg Host.Outcome.next (handOnHead_routed hq hb hv hr)
  refine ⟨fun h => ?_, fun h closed => ?_, fun h => ?_⟩
  · have forwarded : routeBy r p e.marked e.frame (s.setPort p { x with rx := rest })
        = routeForward p e.marked e.frame (s.setPort p { x with rx := rest }) := by
      rcases h with h | ⟨h, opened⟩
      · exact routeBy_forward h
      · rw [routeBy_forwardIf h, if_pos (gate.mpr opened)]
    rw [routed, forwarded, routeForward,
      countClass_head e.marked rest (fun k c => { c with forwarded := c.forwarded + k }) (by simp), forward_setPort]
  · rw [routed, routeBy_forwardIf h, if_neg (fun g => closed (gate.mp g)),
      countClass_head e.marked rest (fun k c => { c with gated := c.gated + k }) (by simp)]
  · rw [routed, routeBy_drop h,
      countClass_head e.marked rest (fun k c => { c with dropped := c.dropped + k }) (by simp)]

/-- Settles O13, by the tests of R35 to R37 in their order. -/
theorem sampleJudged : Obligations.SampleJudged := by
  intro d f r hs ht
  have hm : d.matchesFrame f = true := SigDef.matchesFrame_of_eq hs ht
  refine ⟨fun hv => sampleOutcome_short hm hv, fun v hv => ⟨fun used same => ?_, fun other => ?_⟩⟩
  · rw [sampleOutcome_value hm hv, if_pos ⟨used, same⟩]
  · have judged : sampleOutcome d f r = (r.countSkip f.seq).takeRaw d f.seq v := by
      rw [sampleOutcome_value hm hv, if_neg (by tauto)]
    rw [judged, SigRec.countSkip_eq]
    exact ⟨fun absent => SigRec.takeRaw_absent ((toInt_eq_iff_notAvailable v).mp absent),
      fun present => SigRec.takeRaw_present (fun h => present ((toInt_eq_iff_notAvailable v).mpr h))⟩
end
